-- ==== Sys2Proof/Word.lean ====
section
/-! DEFINITION. The word types of the block: a byte, a command word, and the eight data bytes of a register image. -/

namespace Sys2Proof

/-- One byte; bit n has weight 2^n (R7). -/
abbrev Byte := BitVec 8

/-- One host command word W (R81). -/
abbrev Word := BitVec 16

/-- The eight data bytes of one register image, d_0 to d_7 of the wire table: byte indices 1 to 8 of the image.
Byte index 0, the header, is hardwired and is no part of it (R23, R24, R25). -/
structure Image where
  d0 : Byte
  d1 : Byte
  d2 : Byte
  d3 : Byte
  d4 : Byte
  d5 : Byte
  d6 : Byte
  d7 : Byte
  deriving DecidableEq, Repr

end Sys2Proof
end

