-- ==== Sys2Proof/Machine/Constants.lean ====
section
/-! DEFINITION. The constants that R5 fixes, one name each, so that an audit against the chip changes one place (U9,
log 18). They are normative for this block. -/

namespace Sys2Proof.Machine

/-- HALF_W: columns per half; x < 5 is the left half (R5). -/
def halfW : Nat := 5

/-- GRID_W: logical columns (R5). No operation reads it: there is no bounds check (R170). -/
def gridW : Nat := 10

/-- GRID_H: logical rows (R5). -/
def gridH : Nat := 7

/-- IMG_LEN: bytes of a register image, the header and eight data bytes (R5). -/
def imgLen : Nat := 9

/-- HDR_LEFT: header byte of the left image, and its device register address (R5, R52). -/
def hdrLeft : Byte := 0x0E#8

/-- HDR_RIGHT: header byte of the right image, and its device register address (R5, R52). -/
def hdrRight : Byte := 0x01#8

/-- REG_MODE (R5). -/
def regMode : Byte := 0x00#8

/-- VAL_MODE (R5). -/
def valMode : Byte := 0x18#8

/-- REG_OPTIONS (R5). -/
def regOptions : Byte := 0x0D#8

/-- VAL_OPTIONS (R5). -/
def valOptions : Byte := 0x0E#8

/-- REG_BRIGHTNESS (R5). -/
def regBrightness : Byte := 0x19#8

/-- REG_UPDATE (R5). -/
def regUpdate : Byte := 0x0C#8

/-- VAL_UPDATE (R5). -/
def valUpdate : Byte := 0x01#8

/-- MAX_BRIGHTNESS (R5). -/
def maxBrightness : Nat := 127

/-- DP_LEFT: byte index in the left image (R5, R28). -/
def dpLeftIndex : Nat := 8

/-- DP_LEFT: bit of that byte (R5, R28). -/
def dpLeftBit : Nat := 6

/-- DP_RIGHT: byte index in the right image (R5, R28). -/
def dpRightIndex : Nat := 7

/-- DP_RIGHT: bit of that byte (R5, R28). -/
def dpRightBit : Nat := 7

/-- The default device address (R5). No operation reads it: ADDR is the strap sampled at reset (R21; log 16). -/
def addrDefault : Byte := 0x61#8

end Sys2Proof.Machine
end

