-- ==== Sys2Proof/Syntax.lean ====
section
/-! DEFINITION. The instructions: one constructor per row of spec/opcode_table.json, seven host commands (R82) and the
six bus frames that the sequencer of SHOW sends (R92). -/

namespace Sys2Proof

/-- One row of the opcode table. The first seven are host operations, the last six are bus frames. -/
inductive Instr where
  /-- INIT() (R83, R143). -/
  | init
  /-- SET_BRIGHTNESS(level, update) (R84, R142). -/
  | setBrightness (level : BitVec 8) (update : Bool)
  /-- SET_PIXEL(x, y, on) (R85, R111). -/
  | setPixel (x : BitVec 4) (y : BitVec 3) (on : Bool)
  /-- SET_CHARACTER(x, c) (R86, R131). -/
  | setCharacter (x : BitVec 4) (c : BitVec 8)
  /-- SET_DECIMAL(left, right) (R87, R112). -/
  | setDecimal (left right : Bool)
  /-- CLEAR() (R88, R113). -/
  | clear
  /-- SHOW(), the commit of the glossary (R89, R144). -/
  | commit
  /-- LEFT_IMAGE, SHOW step 1, with its eight data bytes (R92, R145). -/
  | leftImage (d : Image)
  /-- RIGHT_IMAGE, SHOW step 2, with its eight data bytes (R92, R146). -/
  | rightImage (d : Image)
  /-- MODE, SHOW step 3 (R92, R147). -/
  | mode
  /-- OPTIONS, SHOW step 4 (R92, R148). -/
  | options
  /-- BRIGHTNESS, SHOW step 5, with its data byte, of which bit 7 is 0 (R92, R149). -/
  | brightness (level : Byte)
  /-- UPDATE, SHOW step 6 (R92, R150). -/
  | update
  deriving DecidableEq, Repr

/-- The two spaces of the opcode table: a command word on the host port (R81), or the payload of one bus write (R91). -/
inductive Encoded where
  | command (w : Word)
  | frame (bytes : List Byte)
  deriving DecidableEq, Repr

end Sys2Proof
end

