-- ==== Sys2Proof/Config.lean ====
section
/-! DEFINITION. What the spec leaves to the surroundings: the parameters of R6, the strap, the transport's answers.
Each constant below has no body: it stands for any value of its type (log 2, log 3, log 4, log 16). -/

namespace Sys2Proof

/-- The transport's error value, the open type E of R6 and D12: carried, never looked into (log 4). -/
structure TransportError where
  code : Nat
  deriving DecidableEq, Repr, Inhabited

/-- What the transport answers to one bus write (R63, R140). -/
inductive Answer where
  | ok
  | err (e : TransportError)
  deriving DecidableEq, Repr, Inhabited

/-- The parameters of R6 that the operations read. `glyphs` lists GLYPH(c) for c from `glyphFirst` to `glyphLast`,
each an array of `charWidth` column bytes. -/
structure Params where
  defaultBrightness : Fin 128
  charWidth : Nat
  glyphFirst : Nat
  glyphLast : Nat
  glyphs : List (List Byte)
  deriving DecidableEq, Repr

namespace Config

/-- ADDR_STRAP, the strap input sampled at reset: any byte (R6, D9). -/
opaque addrStrap : Byte

/-- DEFAULT_BRIGHTNESS: 0 to 127, no value given (R6, D10). -/
opaque defaultBrightness : Fin 128

/-- CHAR_WIDTH: no value given (R6, D11). -/
opaque charWidth : Nat

/-- GLYPH_FIRST: no value given (R6, D11). -/
opaque glyphFirst : Nat

/-- GLYPH_LAST - GLYPH_FIRST, so that GLYPH_FIRST <= GLYPH_LAST as R6 asks. -/
opaque glyphSpan : Nat

/-- Column `cx` of GLYPH(c): no contents given (R6, D11). -/
opaque glyphByte : Nat → Nat → Byte

/-- The transport's answer to the n-th free draw: no law constrains it (R63, D13). -/
opaque freeAnswer : Nat → Answer

/-- The parameters of R6, all of them free. -/
def params : Params where
  defaultBrightness := defaultBrightness
  charWidth := charWidth
  glyphFirst := glyphFirst
  glyphLast := glyphFirst + glyphSpan
  glyphs := (List.range (glyphSpan + 1)).map fun k =>
    (List.range charWidth).map fun cx => glyphByte (glyphFirst + k) cx

end Config

end Sys2Proof
end

