-- ==== Sys2Proof/WellFormed.lean ====
section
/-! DEFINITION. Which instruction terms and which parameters are well formed. The operand widths of R84 to R87 are in
the types of `Instr`; the one check left is the data byte of a brightness frame. -/

namespace Sys2Proof

/-- A term the encodings can spell. -/
def Instr.wf : Instr → Bool
  | .init => true
  | .setBrightness _ _ => true
  | .setPixel _ _ _ => true
  | .setCharacter _ _ => true
  | .setDecimal _ _ => true
  | .clear => true
  | .commit => true
  | .leftImage _ => true
  | .rightImage _ => true
  | .mode => true
  | .options => true
  /- R92: "BRT, 0 to 127, so bit 7 of byte 1 is always 0". -/
  | .brightness level => !level.getLsbD 7
  | .update => true

/-- The constraints R6 puts on the parameters (DEFAULT_BRIGHTNESS <= 127 is in its type): GLYPH_FIRST <= GLYPH_LAST, one
glyph for each code of the range, CHAR_WIDTH columns in each. -/
def Params.wf (p : Params) : Bool :=
  decide (p.glyphFirst ≤ p.glyphLast) &&
  decide (p.glyphs.length = p.glyphLast - p.glyphFirst + 1) &&
  p.glyphs.all fun g => decide (g.length = p.charWidth)

end Sys2Proof
end

