-- ==== Sys2Proof/Decode.lean ====
section
/-! DEFINITION. The decoder of both encoding spaces, total, rejecting by name; after it the encoder, written from the
formats of R83 to R92 and not from the decoder. -/

namespace Sys2Proof

/-- Why a word or a byte list spells no instruction. -/
inductive Reject where
  /-- OP is 0x0 or 0x8 to 0xF (R93). -/
  | reservedOpcode
  /-- A reserved bit of the operation's format is 1 (R93). -/
  | reservedBits
  /-- The first byte begins no frame of R98. -/
  | unknownFrame
  /-- The first byte begins a frame of R98, but the length or a fixed byte is not that frame's (R92). -/
  | malformedFrame
  deriving DecidableEq, Repr

/-- What the decoder answers. -/
inductive Decoded where
  | instr (i : Instr)
  | reject (r : Reject)
  deriving DecidableEq, Repr

/-- The instruction, where there is one. -/
def Decoded.instr? : Decoded → Option Instr
  | .instr i => some i
  | .reject _ => none

/-- `i` where the reserved bits of the operation's format are 0, else a rejection (R93). -/
def whenReservedZero (w mask : Word) (i : Instr) : Decoded :=
  if w &&& mask = 0#16 then .instr i else .reject .reservedBits

/-- Decode a host command word: OP is W[15:12] (R81, R82), the fields are those of R83 to R89, and the mask names the
reserved bits of the operation's format. -/
def decodeCommand (w : Word) : Decoded :=
  if w.extractLsb' 12 4 = 0x1#4 then
    whenReservedZero w 0x0FFF#16 .init
  else if w.extractLsb' 12 4 = 0x2#4 then
    whenReservedZero w 0x0E00#16 (.setBrightness (w.extractLsb' 0 8) (w.getLsbD 8))
  else if w.extractLsb' 12 4 = 0x3#4 then
    whenReservedZero w 0x0E08#16 (.setPixel (w.extractLsb' 4 4) (w.extractLsb' 0 3) (w.getLsbD 8))
  else if w.extractLsb' 12 4 = 0x4#4 then
    .instr (.setCharacter (w.extractLsb' 8 4) (w.extractLsb' 0 8))
  else if w.extractLsb' 12 4 = 0x5#4 then
    whenReservedZero w 0x0FFC#16 (.setDecimal (w.getLsbD 1) (w.getLsbD 0))
  else if w.extractLsb' 12 4 = 0x6#4 then
    whenReservedZero w 0x0FFF#16 .clear
  else if w.extractLsb' 12 4 = 0x7#4 then
    whenReservedZero w 0x0FFF#16 .commit
  else
    .reject .reservedOpcode

/-- The eight data bytes after an image frame's header (R91, format IMG9). -/
def imageOfBytes : List Byte → Option Image
  | [d0, d1, d2, d3, d4, d5, d6, d7] => some ⟨d0, d1, d2, d3, d4, d5, d6, d7⟩
  | _ => none

/-- `i` where the data byte of a command frame is the frame's, else a rejection (R92). -/
def whenData (rest : List Byte) (data : Byte) (i : Instr) : Decoded :=
  if rest = [data] then .instr i else .reject .malformedFrame

/-- The brightness frame's data byte: one byte, bit 7 zero (R92). -/
def decodeBrightness : List Byte → Decoded
  | [b] => if b.getLsbD 7 then .reject .malformedFrame else .instr (.brightness b)
  | _ => .reject .malformedFrame

/-- Decode a bus frame: its first byte tells which frame it is (R98), the rest is as R92 lists it. -/
def decodeFrame : List Byte → Decoded
  | [] => .reject .unknownFrame
  | b :: rest =>
    if b = Machine.hdrLeft then
      match imageOfBytes rest with
      | some d => .instr (.leftImage d)
      | none => .reject .malformedFrame
    else if b = Machine.hdrRight then
      match imageOfBytes rest with
      | some d => .instr (.rightImage d)
      | none => .reject .malformedFrame
    else if b = Machine.regMode then whenData rest Machine.valMode .mode
    else if b = Machine.regOptions then whenData rest Machine.valOptions .options
    else if b = Machine.regBrightness then decodeBrightness rest
    else if b = Machine.regUpdate then whenData rest Machine.valUpdate .update
    else .reject .unknownFrame

/-- Decode in the space the word or the bytes stand in. -/
def decode : Encoded → Decoded
  | .command w => decodeCommand w
  | .frame bytes => decodeFrame bytes

/-- A one-bit operand field. -/
def flagBit (b : Bool) : BitVec 1 := BitVec.ofBool b

/-- An operand in its field of the command word, the field's lowest bit at `lo`; every bit outside the field is 0. -/
def placeField {n : Nat} (lo : Nat) (v : BitVec n) : Word := v.setWidth 16 <<< lo

/-- Format N: OP at 15:12 (R83, R88, R89). -/
def formatN (op : BitVec 4) : Word := placeField 12 op

/-- Format B: OP at 15:12, update at 8, level at 7:0 (R84). -/
def formatB (op : BitVec 4) (update : Bool) (level : BitVec 8) : Word :=
  placeField 12 op ||| placeField 8 (flagBit update) ||| placeField 0 level

/-- Format P: OP at 15:12, on at 8, x at 7:4, y at 2:0 (R85). -/
def formatP (op : BitVec 4) (on : Bool) (x : BitVec 4) (y : BitVec 3) : Word :=
  placeField 12 op ||| placeField 8 (flagBit on) ||| placeField 4 x ||| placeField 0 y

/-- Format C: OP at 15:12, x at 11:8, c at 7:0 (R86). -/
def formatC (op : BitVec 4) (x : BitVec 4) (c : BitVec 8) : Word :=
  placeField 12 op ||| placeField 8 x ||| placeField 0 c

/-- Format D: OP at 15:12, left at 1, right at 0 (R87). -/
def formatD (op : BitVec 4) (left right : Bool) : Word :=
  placeField 12 op ||| placeField 1 (flagBit left) ||| placeField 0 (flagBit right)

/-- Format IMG9: the header byte, then d_0 to d_7 in that order (R91). -/
def imageFrame (header : Byte) (d : Image) : List Byte :=
  [header, d.d0, d.d1, d.d2, d.d3, d.d4, d.d5, d.d6, d.d7]

/-- Format CMD2: cmd, then data (R91). -/
def commandFrame (cmd data : Byte) : List Byte := [cmd, data]

/-- The encoding of an instruction: the word of R82 to R89, or the frame of R92. -/
def encode : Instr → Encoded
  | .init => .command (formatN 0x1#4)
  | .setBrightness level update => .command (formatB 0x2#4 update level)
  | .setPixel x y on => .command (formatP 0x3#4 on x y)
  | .setCharacter x c => .command (formatC 0x4#4 x c)
  | .setDecimal left right => .command (formatD 0x5#4 left right)
  | .clear => .command (formatN 0x6#4)
  | .commit => .command (formatN 0x7#4)
  | .leftImage d => .frame (imageFrame Machine.hdrLeft d)
  | .rightImage d => .frame (imageFrame Machine.hdrRight d)
  | .mode => .frame (commandFrame Machine.regMode Machine.valMode)
  | .options => .frame (commandFrame Machine.regOptions Machine.valOptions)
  | .brightness level => .frame (commandFrame Machine.regBrightness level)
  | .update => .frame (commandFrame Machine.regUpdate Machine.valUpdate)

/-- Byte `k` of a row's bits, counted from the least significant end. -/
def tableByte (w k : Nat) : Byte := BitVec.ofNat 8 (w / 2 ^ (8 * k))

/-- The payload bytes of a frame row: the table numbers a frame with byte 0 most significant (log 9). -/
def tableBytes (n w : Nat) : List Byte := (List.range n).map fun k => tableByte w (n - 1 - k)

/-- The instruction a 16-bit table word spells: a host command, or else a two-byte frame. No word is both. -/
def decodeShortWord (w : Nat) : Option Instr :=
  match decodeCommand (BitVec.ofNat 16 w) with
  | .instr i => some i
  | .reject _ => (decodeFrame (tableBytes 2 w)).instr?

/-- The instruction the decoder reads from a row's bits, numbered as spec/opcode_table.json numbers them: 16 bits for the
host commands and the two-byte frames, 72 bits for the image frames (log 9). -/
def decodeTableWord (nbits w : Nat) : Option Instr :=
  if nbits ≤ 16 then
    if w < 2 ^ 16 then decodeShortWord w else none
  else if nbits ≤ 72 then
    if w < 2 ^ 72 then (decodeFrame (tableBytes 9 w)).instr? else none
  else none

end Sys2Proof
end

