-- ==== Sys2Proof/Machine/State.lean ====
section
/-! DEFINITION. The state of the block as plain data, the reasons a step can stop, and the state after reset. -/

namespace Sys2Proof.Machine

/-- The two register images: the halves of the image store (R50). -/
inductive Half where
  | left
  | right
  deriving DecidableEq, Repr

/-- PHASE, the status of the Device Controller (R30). -/
inductive Phase where
  /-- No INIT or SHOW has succeeded and no pixel changed since reset. -/
  | uninit
  /-- Clean: no pending pixel change since the last successful commit or init. -/
  | init
  /-- Pending pixel changes since the last commit. -/
  | dirty
  deriving DecidableEq, Repr

/-- The response that ends a host operation (R11, R94). -/
inductive Response where
  | ok
  /-- The transport's error value, passed through unchanged (R94, R151). -/
  | err (e : TransportError)
  /-- The word spells no operation (R93, R172). -/
  | ill
  deriving DecidableEq, Repr

/-- One entry of BUSLOG: the address byte, the payload, the transport's answer (R34). -/
structure BusEntry where
  addr : Byte
  payload : List Byte
  result : Answer
  deriving DecidableEq, Repr

/-- The whole state. The first block is the spec's (R20, R32, R34), the second the model's own: the parameters, and
the two ends of the host port and of the transport. L[0] and R[0] are hardwired and read through `readByte` (log 1). -/
structure State where
  /-- ADDR (R21). -/
  addr : Byte
  /-- BRT (R22). -/
  brt : Byte
  /-- L[1..8] (R23). -/
  left : Image
  /-- R[1..8] (R24). -/
  right : Image
  /-- PHASE (R30). -/
  phase : Phase
  /-- SEQ: 0 idle, 1 to 6 the step of SHOW that comes next (R32; log 8). -/
  seq : Fin 7
  /-- BUSLOG, oldest entry first (R34; log 21). -/
  buslog : List BusEntry
  /-- The parameters of R6; no step writes them (log 2). -/
  params : Params
  /-- The command words the host will present, the next one first (R81, R183; log 5). -/
  commands : List Word
  /-- The transport's answers to come, the next one first (R153; log 3). -/
  answers : List Answer
  /-- How many free answers have been drawn: the counter of the free value `Config.freeAnswer` (R63; log 3). -/
  draws : Nat
  /-- The responses given on the host port, oldest first (R94; log 6). -/
  responses : List Response
  deriving DecidableEq, Repr

/-- A fault of the machine. There is none: "no other fault, no hang, no stuck state" (R13). A transport error and a
reserved word are responses after which the run goes on (R177), so both are next states. -/
inductive Fault where
  deriving DecidableEq, Repr

/-- A refusal of the model. -/
inductive Refusal where
  /-- An instruction without a meaning yet; raised by no arm of exec now. Safe: the model stops. -/
  | notModelled (mnemonic : String)
  deriving DecidableEq, Repr

/-- An image whose data bytes are all zero. -/
def zeroImage : Image := ⟨0#8, 0#8, 0#8, 0#8, 0#8, 0#8, 0#8, 0#8⟩

/-- The state after reset with a strap and with the surroundings' parameters (R36, R200). -/
def State.resetWith (strap : Byte) (params : Params) : State where
  addr := strap
  brt := 0#8
  left := zeroImage
  right := zeroImage
  phase := .uninit
  seq := 0
  buslog := []
  params := params
  commands := []
  answers := []
  draws := 0
  responses := []

/-- The state after reset: the strap and the parameters are any (R36; log 2, log 16, log 23). -/
def State.reset : State := State.resetWith Config.addrStrap Config.params

end Sys2Proof.Machine
end

