-- ==== Sys2Proof/Machine/Flags.lean ====
section
/-! DEFINITION. The flags of the block: PHASE, its transitions and its 2-bit code (R30, R31; D8, log 13), and the
2-bit status of a response (R94). -/

namespace Sys2Proof.Machine

/-- A pixel, decimal, character or clear mutation (R31). -/
def markMutated (s : State) : State := { s with phase := .dirty }

/-- INIT answered OK (R31). -/
def markInitialised (s : State) : State := { s with phase := .init }

/-- SHOW answered OK (R31). -/
def markCommitted (s : State) : State := { s with phase := .init }

/-- SHOW answered ERR(e) (R31). -/
def markCommitFailed (s : State) : State := { s with phase := .dirty }

/-- The 2-bit code of PHASE; 3 is never produced (R30). -/
def Phase.code : Phase → BitVec 2
  | .uninit => 0#2
  | .init => 1#2
  | .dirty => 2#2

/-- The 2-bit status of a response; 3 is never produced (R94). -/
def Response.status : Response → BitVec 2
  | .ok => 0#2
  | .err _ => 1#2
  | .ill => 2#2

end Sys2Proof.Machine
end

