-- ==== Sys2Proof/Machine/Operands.lean ====
section
/-! DEFINITION. Operand forms: the coordinate mapping, the bit masks and the brightness clamp. -/

namespace Sys2Proof.Machine

/-- The half a logical column lands in (R110). -/
def pixHalf (x : Nat) : Half := if x < halfW then .left else .right

/-- The byte index of a pixel: x+1 in the left image, y+1 in the right (R110, R117). -/
def pixIndex (x y : Nat) : Nat := if x < halfW then x + 1 else y + 1

/-- The bit of a pixel in its byte: y in the left image, x-5 in the right (R110, R117). -/
def pixBit (x y : Nat) : Nat := if x < halfW then y else x - halfW

/-- The 8-bit mask (2^n) mod 256, which is 0x00 for n >= 8 (R9; D5, log 10). -/
def bitMask (n : Nat) : Byte := 1#8 <<< n

/-- OR the mask in, or AND its complement (R110). -/
def applyMask (on : Bool) (mask byte : Byte) : Byte := if on then byte ||| mask else byte &&& ~~~mask

/-- min(level, 127) as a byte (R116 e, R142). -/
def clampLevel (level : Nat) : Byte :=
  if maxBrightness ≤ level then BitVec.ofNat 8 maxBrightness else BitVec.ofNat 8 level

end Sys2Proof.Machine
end

