-- ==== Sys2Proof/Machine/Ops.lean ====
section
/-! DEFINITION. The shared operations: one byte of the image store, one bus write, the responses, and the two ways an
operation ends early. -/

namespace Sys2Proof.Machine

/-- A data byte of an image by its byte index, 1 to 8. No operation forms another index (R56). -/
def imageGet (m : Image) : Nat → Byte
  | 1 => m.d0
  | 2 => m.d1
  | 3 => m.d2
  | 4 => m.d3
  | 5 => m.d4
  | 6 => m.d5
  | 7 => m.d6
  | 8 => m.d7
  | _ => 0#8

/-- An image with one data byte replaced, by its byte index, 1 to 8. No operation forms another index (R56). -/
def imageSet (m : Image) (v : Byte) : Nat → Image
  | 1 => { m with d0 := v }
  | 2 => { m with d1 := v }
  | 3 => { m with d2 := v }
  | 4 => { m with d3 := v }
  | 5 => { m with d4 := v }
  | 6 => { m with d5 := v }
  | 7 => { m with d6 := v }
  | 8 => { m with d7 := v }
  | _ => m

/-- The hardwired header byte of an image (R25; log 1). -/
def headerOf : Half → Byte
  | .left => hdrLeft
  | .right => hdrRight

/-- The data bytes of an image. -/
def imageOf (s : State) : Half → Image
  | .left => s.left
  | .right => s.right

/-- Read byte i of an image: L[i] or R[i], 0 to 8 (R9, R51). -/
def readByte (s : State) (h : Half) (i : Nat) : Byte :=
  if i = 0 then headerOf h else imageGet (imageOf s h) i

/-- Write byte i of an image, 1 to 8; there is no write path to byte 0 (R9, R25, R51). -/
def writeByte (s : State) (h : Half) (i : Nat) (v : Byte) : State :=
  match h with
  | .left => { s with left := imageSet s.left v i }
  | .right => { s with right := imageSet s.right v i }

/-- Set or clear one bit of one image byte: the read-modify-write of R51. -/
def writeBit (s : State) (h : Half) (i n : Nat) (on : Bool) : State :=
  writeByte s h i (applyMask on (bitMask n) (readByte s h i))

/-- PIX(x, y, on), the pixel micro-operation (R110). -/
def pix (x y : Nat) (on : Bool) (s : State) : State :=
  writeBit s (pixHalf x) (pixIndex x y) (pixBit x y) on

/-- Zero all data bytes of both images, not the header bytes (R113). -/
def zeroImages (s : State) : State := { s with left := zeroImage, right := zeroImage }

/-- The nine bytes of a register image in index order, header first (R54, R91). -/
def imagePayload (s : State) (h : Half) : List Byte := (List.range imgLen).map (readByte s h)

/-- What the transport will answer to the next bus write: the next given answer, else a free one (R63; log 3). -/
def nextAnswer (s : State) : Answer :=
  match s.answers with
  | a :: _ => a
  | [] => Config.freeAnswer s.draws

/-- The state with that answer consumed. -/
def dropAnswer (s : State) : State :=
  match s.answers with
  | _ :: rest => { s with answers := rest }
  | [] => { s with draws := s.draws + 1 }

/-- `BusWrite(ADDR, bytes)`: hand the transport the payload at ADDR, take its answer, append the entry to BUSLOG. It
changes no other state of the block (R140). The answer it returned is `nextAnswer s`. -/
def busWrite (payload : List Byte) (s : State) : State :=
  { dropAnswer s with buslog := s.buslog ++ [⟨s.addr, payload, nextAnswer s⟩] }

/-- End the operation with a response on the host port (R11, R94). -/
def respond (r : Response) (s : State) : State := { s with responses := s.responses ++ [r] }

/-- `raise TransportError(e)`: the operation ends now with ERR(e), e unchanged; no rollback (R9, R151, R175). -/
def raiseTransport (e : TransportError) (s : State) : State := respond (.err e) s

/-- `raise Illegal`: the operation ends with ILL; nothing was changed (R9, R172, R176). -/
def raiseIllegal (s : State) : State := respond .ill s

/-- SEND_CMD(cmd, data): one two-byte bus write; on Ok the operation continues, on Err(e) it ends with ERR(e) (R141). -/
def sendCmd (cmd data : Byte) (s : State) (continueWith : State → State) : State :=
  match nextAnswer s with
  | .ok => continueWith (busWrite (commandFrame cmd data) s)
  | .err e => raiseTransport e (busWrite (commandFrame cmd data) s)

end Sys2Proof.Machine
end

