-- ==== Sys2Proof/Machine/Controller.lean ====
section
/-! DEFINITION. The device controller: SET_BRIGHTNESS, INIT, SHOW. -/

namespace Sys2Proof.Machine

/-- Store a clamped brightness (R142). -/
def storeBrightness (level : Nat) (s : State) : State := { s with brt := clampLevel level }

/-- SET_BRIGHTNESS(level, update): the store happens before the send and is not undone (R142). -/
def execSetBrightness (level : BitVec 8) (update : Bool) (s : State) : Host.Outcome State Fault Refusal :=
  let stored := storeBrightness level.toNat s
  .next (if update then sendCmd regBrightness stored.brt stored (respond .ok) else respond .ok stored)

/-- INIT(): the default brightness is stored and sent, then the images are zeroed; a failed send ends it before the
clear (R143; D7, log 12). -/
def execInit (s : State) : Host.Outcome State Fault Refusal :=
  let stored := storeBrightness s.params.defaultBrightness.val s
  .next (sendCmd regBrightness stored.brt stored fun sent => respond .ok (markInitialised (zeroImages sent)))

/-- The six frames of a commit, in their mandatory order (R144). -/
def showFrames (s : State) : List (List Byte) :=
  [ imagePayload s .left,
    imagePayload s .right,
    commandFrame regMode valMode,
    commandFrame regOptions valOptions,
    commandFrame regBrightness s.brt,
    commandFrame regUpdate valUpdate ]

/-- SHOW's end after its last frame answered Ok: SEQ back to 0, PHASE INIT, response OK (R32, R144). -/
def endShow (s : State) : State := respond .ok (markCommitted { s with seq := 0 })

/-- SHOW's end at the first failed write: SEQ back to 0, PHASE DIRTY, response ERR(e) (R32, R144, R151). -/
def abortShow (e : TransportError) (s : State) : State := raiseTransport e (markCommitFailed { s with seq := 0 })

/-- Send the frames in order; the first failure aborts the rest (R144, R151). -/
def sendFrames : List (List Byte) → State → State
  | [], s => endShow s
  | f :: rest, s =>
    match nextAnswer s with
    | .ok => sendFrames rest (busWrite f s)
    | .err e => abortShow e (busWrite f s)

/-- SHOW(), the whole operation in one step (R144, R153; log 8). -/
def execShow (s : State) : Host.Outcome State Fault Refusal := .next (sendFrames (showFrames s) s)

end Sys2Proof.Machine
end

