-- ==== Sys2Proof/Machine/Framebuffer.lean ====
section
/-! DEFINITION. The framebuffer operations: SET_PIXEL, SET_DECIMAL, CLEAR. -/

namespace Sys2Proof.Machine

/-- SET_PIXEL(x, y, on) (R111). -/
def execSetPixel (x : BitVec 4) (y : BitVec 3) (on : Bool) (s : State) : Host.Outcome State Fault Refusal :=
  .next (respond .ok (markMutated (pix x.toNat y.toNat on s)))

/-- SET_DECIMAL(left, right): both bits are always written (R112). -/
def execSetDecimal (left right : Bool) (s : State) : Host.Outcome State Fault Refusal :=
  .next (respond .ok (markMutated
    (writeBit (writeBit s .left dpLeftIndex dpLeftBit left) .right dpRightIndex dpRightBit right)))

/-- CLEAR() (R113). -/
def execClear (s : State) : Host.Outcome State Fault Refusal :=
  .next (respond .ok (markMutated (zeroImages s)))

end Sys2Proof.Machine
end

