-- ==== Sys2Proof/Machine/Frames.lean ====
section
/-! DEFINITION. The six bus frames as the steps of the sequencer inside SHOW (R145 to R150; log 8): each is one bus
write of the frame, after which SEQ advances by 1, or SHOW ends. -/

namespace Sys2Proof.Machine

/-- The sequencer's step k: one bus write. On Ok SEQ advances by exactly 1, and after step 6 SHOW ends with OK; on
Err(e) SHOW aborts (R32, R144, R151). -/
def sequencerStep (k : Fin 7) (payload : List Byte) (s : State) : State :=
  match nextAnswer s with
  | .ok => if k = 6 then endShow (busWrite payload s) else { busWrite payload s with seq := k + 1 }
  | .err e => abortShow e (busWrite payload s)

/-- LEFT_IMAGE, step 1 (R145). -/
def execLeftImage (d : Image) (s : State) : Host.Outcome State Fault Refusal :=
  .next (sequencerStep 1 (imageFrame hdrLeft d) s)

/-- RIGHT_IMAGE, step 2 (R146). -/
def execRightImage (d : Image) (s : State) : Host.Outcome State Fault Refusal :=
  .next (sequencerStep 2 (imageFrame hdrRight d) s)

/-- MODE, step 3 (R147). -/
def execMode (s : State) : Host.Outcome State Fault Refusal :=
  .next (sequencerStep 3 (commandFrame regMode valMode) s)

/-- OPTIONS, step 4 (R148). -/
def execOptions (s : State) : Host.Outcome State Fault Refusal :=
  .next (sequencerStep 4 (commandFrame regOptions valOptions) s)

/-- BRIGHTNESS, step 5 (R149). -/
def execBrightness (level : Byte) (s : State) : Host.Outcome State Fault Refusal :=
  .next (sequencerStep 5 (commandFrame regBrightness level) s)

/-- UPDATE, step 6 (R150). -/
def execUpdate (s : State) : Host.Outcome State Fault Refusal :=
  .next (sequencerStep 6 (commandFrame regUpdate valUpdate) s)

end Sys2Proof.Machine
end

