-- ==== Sys2Proof/Machine/Rasterizer.lean ====
section
/-! DEFINITION. The rasterizer: the glyph lookup and SET_CHARACTER. -/

namespace Sys2Proof.Machine

/-- `GlyphLookup(c)`: none is Miss, some data is Hit(data) (R53, R130). -/
def glyphLookup (p : Params) (c : Nat) : Option (List Byte) :=
  if c < p.glyphFirst ∨ p.glyphLast < c then none
  else some (p.glyphs.getD (c - p.glyphFirst) [])

/-- Row cy of glyph column cx: (data[cx] >> cy) & 1 (R116 f, R131). -/
def glyphPixel (data : List Byte) (cx cy : Nat) : Bool := (data.getD cx 0#8).getLsbD cy

/-- The points of a glyph, column-major (R131). -/
def glyphPoints (charWidth : Nat) : List (Nat × Nat) :=
  (List.range charWidth).flatMap fun cx => (List.range gridH).map fun cy => (cx, cy)

/-- One PIX call of SET_CHARACTER: pixel (x+cx, cy) to the glyph's bit (R131). -/
def plotPoint (x : Nat) (data : List Byte) (s : State) (p : Nat × Nat) : State :=
  pix (x + p.1) p.2 (glyphPixel data p.1 p.2) s

/-- All PIX calls of SET_CHARACTER, in order (R131). -/
def drawGlyph (x charWidth : Nat) (data : List Byte) (s : State) : State :=
  (glyphPoints charWidth).foldl (plotPoint x data) s

/-- SET_CHARACTER(x, c): a miss changes nothing and answers OK (R131). -/
def execSetCharacter (x : BitVec 4) (c : BitVec 8) (s : State) : Host.Outcome State Fault Refusal :=
  match glyphLookup s.params c.toNat with
  | none => .next (respond .ok s)
  | some data => .next (respond .ok (markMutated (drawGlyph x.toNat s.params.charWidth data s)))

end Sys2Proof.Machine
end

