-- ==== Sys2Proof/Machine/Dispatch.lean ====
section
/-! DEFINITION. One arm per instruction (R153). -/

namespace Sys2Proof.Machine

def exec (i : Instr) (s : State) : Host.Outcome State Fault Refusal :=
  match i with
  | .init => Sys2Proof.Machine.execInit s
  | .setBrightness level update => Sys2Proof.Machine.execSetBrightness level update s
  | .setPixel x y on => Sys2Proof.Machine.execSetPixel x y on s
  | .setCharacter x c => Sys2Proof.Machine.execSetCharacter x c s
  | .setDecimal left right => Sys2Proof.Machine.execSetDecimal left right s
  | .clear => Sys2Proof.Machine.execClear s
  | .commit => Sys2Proof.Machine.execShow s
  | .leftImage d => Sys2Proof.Machine.execLeftImage d s
  | .rightImage d => Sys2Proof.Machine.execRightImage d s
  | .mode => Sys2Proof.Machine.execMode s
  | .options => Sys2Proof.Machine.execOptions s
  | .brightness level => Sys2Proof.Machine.execBrightness level s
  | .update => Sys2Proof.Machine.execUpdate s

end Sys2Proof.Machine
end

