-- ==== Sys2Proof/Machine/Fetch.lean ====
section
/-! DEFINITION. Where the next instruction comes from: the sequencer while SEQ is not 0, else the host command port
(R32, R61, R181; log 5, log 8); and the placing of a table word there. -/

namespace Sys2Proof.Machine

/-- The frame the sequencer sends at its step k: the images, the constants and BRT are where SHOW reads it (R144 to
R150). None at SEQ 0. -/
def sequencerInstr (s : State) : Option Instr :=
  match s.seq with
  | 0 => none
  | 1 => some (.leftImage s.left)
  | 2 => some (.rightImage s.right)
  | 3 => some .mode
  | 4 => some .options
  | 5 => some (.brightness s.brt)
  | 6 => some .update

/-- Take the next command word off the host port: one word, taken whole, when the block is idle (R61, R181). -/
def takeCommand (s : State) : State := { s with commands := s.commands.tail }

/-- Store a table word where the next step takes its instruction: a frame where the sequencer takes it, with SEQ at that
frame's step; any other word on the host port, with the block idle (log 5, log 8). -/
def placeTableWord (s : State) (nbits w : Nat) : State :=
  match decodeTableWord nbits w with
  | some (.leftImage d) => { s with seq := 1, left := d }
  | some (.rightImage d) => { s with seq := 2, right := d }
  | some .mode => { s with seq := 3 }
  | some .options => { s with seq := 4 }
  | some (.brightness level) => { s with seq := 5, brt := level }
  | some .update => { s with seq := 6 }
  | some .init | some (.setBrightness _ _) | some (.setPixel _ _ _) | some (.setCharacter _ _)
  | some (.setDecimal _ _) | some .clear | some .commit | none =>
    { s with seq := 0, commands := BitVec.ofNat 16 w :: s.commands }

end Sys2Proof.Machine
end

