-- ==== Sys2Proof/Machine/Step.lean ====
section
/-! DEFINITION. One step of the block (R153), and the placing of a table word for the next step. -/

namespace Sys2Proof.Machine

/-- One step. Inside SHOW the sequencer sends its next frame. Idle, the block takes the next command word and runs the
whole operation; a reserved word is answered ILL and changes nothing (R93, R172); with no word presented the block is
"simply idle with its state held" (R180). -/
def step (s : State) : Host.Outcome State Fault Refusal :=
  match sequencerInstr s with
  | some i => exec i s
  | none =>
    match s.commands with
    | [] => .next s
    | w :: _ =>
      match decodeCommand w with
      | .instr i => exec i (takeCommand s)
      | .reject _ => .next (raiseIllegal (takeCommand s))

/-- The state in which the next step fetches and runs the instruction of a table word. -/
def State.withFetchWord (s : State) (nbits w : Nat) : State := placeTableWord s nbits w

end Sys2Proof.Machine
end

