-- ==== Sys2Proof/Safety.lean ====
section
/-! DEFINITION. The terms claims are stated in: views of the state, the transport's answers by number, runs of several
operations, and the invariant of the machine. The step uses none of them. -/

namespace Sys2Proof.Machine

/-- Bit n of byte i of an image. -/
def imageBit (s : State) (h : Half) (i n : Nat) : Bool := (readByte s h i).getLsbD n

/-- Where the tables of R26 and R27 and the formulas of R110 put logical pixel (x, y): half, byte index, bit. Written
with the spec's own numbers, not with the operand forms of the machine. -/
def pixelCell (x y : Nat) : Half × Nat × Nat :=
  if x < 5 then (.left, x + 1, y) else (.right, y + 1, x - 5)

/-- Column cx of GLYPH(c) (R53). -/
def glyphColumn (p : Params) (c cx : Nat) : Byte := (p.glyphs.getD (c - p.glyphFirst) []).getD cx 0#8

/-- The transport's answer to the k-th bus write from here, the first being 0. -/
def answerAt (s : State) (k : Nat) : Answer :=
  match s.answers[k]? with
  | some a => a
  | none => Config.freeAnswer (s.draws + (k - s.answers.length))

/-- The state with k answers consumed: the given ones first, then free ones. -/
def consumeAnswers (s : State) (k : Nat) : State :=
  { s with answers := s.answers.drop k, draws := s.draws + (k - s.answers.length) }

/-- The six frames of a commit, byte by byte as R92 and R144 list them. -/
def commitFrames (s : State) : List (List Byte) :=
  [ [0x0E#8, s.left.d0, s.left.d1, s.left.d2, s.left.d3, s.left.d4, s.left.d5, s.left.d6, s.left.d7],
    [0x01#8, s.right.d0, s.right.d1, s.right.d2, s.right.d3, s.right.d4, s.right.d5, s.right.d6, s.right.d7],
    [0x00#8, 0x18#8],
    [0x0D#8, 0x0E#8],
    [0x19#8, s.brt],
    [0x0C#8, 0x01#8] ]

/-- BUSLOG entries of frames that all answered Ok. -/
def okEntries (addr : Byte) (frames : List (List Byte)) : List BusEntry := frames.map fun f => ⟨addr, f, .ok⟩

/-- Run instructions one after another. -/
def execAll : List Instr → State → Host.Outcome State Fault Refusal
  | [], s => .next s
  | i :: rest, s =>
    match exec i s with
    | .next t => execAll rest t
    | .fault r => .fault r
    | .refused r => .refused r

/-- A payload is one of the frames of R92. -/
def isFrame (payload : List Byte) : Bool := (decodeFrame payload).instr?.isSome

/-- The invariant of R37: the stored brightness is at most 127 (I-b), and every bus write went to ADDR with one of the
frames of R92, which have length 2 or 9 (I-e); with it, that the parameters are as R6 asks. (I-a) and (I-d) are in
the types: the headers are hardwired and PHASE has three values. -/
abbrev State.Inv (s : State) : Prop :=
  s.brt.toNat ≤ 127 ∧ s.params.wf = true ∧ ∀ e ∈ s.buslog, e.addr = s.addr ∧ isFrame e.payload = true

/-- The block is between operations: SEQ is 0 (R32). -/
abbrev State.Idle (s : State) : Prop := s.seq = 0

/-- A host operation, as against a bus frame. -/
def isHostOperation : Instr → Bool
  | .init => true
  | .setBrightness _ _ => true
  | .setPixel _ _ _ => true
  | .setCharacter _ _ => true
  | .setDecimal _ _ => true
  | .clear => true
  | .commit => true
  | .leftImage _ => false
  | .rightImage _ => false
  | .mode => false
  | .options => false
  | .brightness _ => false
  | .update => false

/-- The operations that work in memory only: SET_PIXEL, SET_CHARACTER, SET_DECIMAL, CLEAR (R178). -/
def isDrawing : Instr → Bool
  | .init => false
  | .setBrightness _ _ => false
  | .setPixel _ _ _ => true
  | .setCharacter _ _ => true
  | .setDecimal _ _ => true
  | .clear => true
  | .commit => false
  | .leftImage _ => false
  | .rightImage _ => false
  | .mode => false
  | .options => false
  | .brightness _ => false
  | .update => false

end Sys2Proof.Machine
end

