-- ==== Sys2Proof/Certificates/Slice0/Obligations.lean ====
section
/-! DEFINITION. The statements for the provers. Each docstring names the rule it formalises, and says where a clause rests
on one of the spec's own decisions D<n> or on a choice of the model (log <n>). -/

open Sys2Proof Sys2Proof.Machine

/-! Encodings -/

/-- Words and frames written out from R83 to R89 and R92 decode to what they stand for (the word layout is D2). -/
def Obligations.SpecWordsDecodeToTheirInstructions : Prop :=
  decodeCommand 0x1000#16 = .instr .init ∧
  decodeCommand 0x21C8#16 = .instr (.setBrightness 200#8 true) ∧
  decodeCommand 0x3196#16 = .instr (.setPixel 9#4 6#3 true) ∧
  decodeCommand 0x4341#16 = .instr (.setCharacter 3#4 0x41#8) ∧
  decodeCommand 0x5002#16 = .instr (.setDecimal true false) ∧
  decodeCommand 0x6000#16 = .instr .clear ∧
  decodeCommand 0x7000#16 = .instr .commit ∧
  decodeFrame [0x0E#8, 1#8, 2#8, 3#8, 4#8, 5#8, 6#8, 7#8, 8#8] =
    .instr (.leftImage ⟨1#8, 2#8, 3#8, 4#8, 5#8, 6#8, 7#8, 8#8⟩) ∧
  decodeFrame [0x19#8, 0x7F#8] = .instr (.brightness 0x7F#8) ∧
  decodeCommand 0x2200#16 = .reject .reservedBits ∧
  decodeCommand 0x8000#16 = .reject .reservedOpcode

/-- Every well-formed instruction, with every operand at every value, is decoded back from its encoding (R82 to R92). -/
def Obligations.DecodeInvertsEncode : Prop :=
  ∀ i : Instr, i.wf = true → decode (encode i) = .instr i

/-- Whatever decodes is the encoding of the instruction it decodes to, and that instruction is well formed: no second
spelling (R82 to R93). -/
def Obligations.EncodeInvertsDecode : Prop :=
  ∀ (e : Encoded) (i : Instr), decode e = .instr i → i.wf = true ∧ encode i = e

/-- R93: which of the 65536 command words spell an operation, by OP = W / 4096 and the twelve bits below it (D2, D4). -/
def Obligations.CommandWordLegalExactlyByOpcodeAndReservedBits : Prop :=
  ∀ w : Word, (∃ i, decodeCommand w = .instr i) ↔
    (w.toNat / 4096 = 1 ∧ w.toNat % 4096 = 0) ∨
    (w.toNat / 4096 = 2 ∧ w.toNat % 4096 < 512) ∨
    (w.toNat / 4096 = 3 ∧ w.toNat % 4096 < 512 ∧ w.toNat % 16 < 8) ∨
    w.toNat / 4096 = 4 ∨
    (w.toNat / 4096 = 5 ∧ w.toNat % 4096 < 4) ∨
    (w.toNat / 4096 = 6 ∧ w.toNat % 4096 = 0) ∨
    (w.toNat / 4096 = 7 ∧ w.toNat % 4096 = 0)

/-- A two-byte frame read as a command word is a reserved word: the two spaces of the table never clash (R92, R93; the
command layout is D2). -/
def Obligations.TwoByteFramesAreReservedCommandWords : Prop :=
  ∀ (i : Instr) (a b : Byte), i.wf = true → encode i = .frame [a, b] → ∃ r, decodeCommand (a ++ b) = .reject r

/-- R98: the first byte alone tells which frame a payload is, and its length. -/
def Obligations.FirstByteTellsFrameAndLength : Prop :=
  ∀ (b : Byte) (rest : List Byte) (i : Instr), decodeFrame (b :: rest) = .instr i →
    (b = 0x0E#8 ∧ rest.length = 8 ∧ ∃ d, i = .leftImage d) ∨
    (b = 0x01#8 ∧ rest.length = 8 ∧ ∃ d, i = .rightImage d) ∨
    (b = 0x00#8 ∧ rest.length = 1 ∧ i = .mode) ∨
    (b = 0x0D#8 ∧ rest.length = 1 ∧ i = .options) ∨
    (b = 0x19#8 ∧ rest.length = 1 ∧ ∃ level, i = .brightness level) ∨
    (b = 0x0C#8 ∧ rest.length = 1 ∧ i = .update)

/-! The step -/

/-- Idle, with a command word presented that decodes, a step is that instruction run on the state with the word taken. -/
def Obligations.StepRunsPresentedCommand : Prop :=
  ∀ (s : State) (w : Word) (rest : List Word) (i : Instr),
    s.Idle → s.commands = w :: rest → decodeCommand w = .instr i →
    step s = exec i { s with commands := rest }

/-- Inside SHOW, at SEQ = k + 1, a step is the instruction that frame k + 1 of R144's list decodes to (R32; that SEQ can be
seen between two steps is the model's choice, log 8). -/
def Obligations.StepRunsSequencerFrame : Prop :=
  ∀ (s : State) (k : Nat) (bytes : List Byte) (i : Instr),
    s.seq.val = k + 1 → (commitFrames s)[k]? = some bytes → decodeFrame bytes = .instr i →
    step s = exec i s

/-- R176: after ILL the state is exactly the state before it; the word is answered and gone. -/
def Obligations.ReservedWordAnswersIllAndChangesNothing : Prop :=
  ∀ (s : State) (w : Word) (rest : List Word) (r : Reject),
    s.Idle → s.commands = w :: rest → decodeCommand w = .reject r →
    step s = .next { s with commands := rest, responses := s.responses ++ [.ill] }

/-- R180: between operations the block is idle with its state held. -/
def Obligations.IdleStepHoldsState : Prop :=
  ∀ s : State, s.Idle → s.commands = [] → step s = .next s

/-- R153: the step function is total; no state stops the block. -/
def Obligations.EveryStepAnswersANextState : Prop :=
  ∀ s : State, ∃ t, step s = .next t

/-- A table word placed for the next step is the instruction that the next step runs, and the placing touches nothing but
the word's own place: the command port and SEQ, or the registers a frame's bytes come from (log 5, log 8, log 9). -/
def Obligations.PlacedTableWordIsRunByTheNextStep : Prop :=
  ∀ (s : State) (nbits w : Nat) (i : Instr), decodeTableWord nbits w = some i →
    ∃ t, step (s.withFetchWord nbits w) = exec i t ∧
      t = { s with seq := t.seq, left := t.left, right := t.right, brt := t.brt } ∧
      (isHostOperation i = true → t = { s with seq := 0 })

/-! Reset and invariants -/

/-- R36: what reset leaves, for every strap and all parameters (ADDR_STRAP and the parameters are open, log 2, log 16; L[0]
and R[0] are read through the accessor, log 1). -/
def Obligations.ResetLeavesTheSpecsValues : Prop :=
  ∀ (strap : Byte) (p : Params),
    (State.resetWith strap p).addr = strap ∧
    (State.resetWith strap p).brt = 0x00#8 ∧
    readByte (State.resetWith strap p) .left 0 = 0x0E#8 ∧
    readByte (State.resetWith strap p) .right 0 = 0x01#8 ∧
    (∀ h i, 1 ≤ i → i ≤ 8 → readByte (State.resetWith strap p) h i = 0x00#8) ∧
    (State.resetWith strap p).phase = .uninit ∧
    (State.resetWith strap p).seq = 0 ∧
    (State.resetWith strap p).buslog = [] ∧
    State.reset = State.resetWith Config.addrStrap Config.params

/-- R37: the invariant holds after reset. -/
def Obligations.ResetMeetsTheInvariant : Prop := State.reset.Inv

/-- R37: every step from a state that meets the invariant gives a state that meets it: BRT stays at most 127, every bus
write so far went to ADDR with one of the frames of R92. -/
def Obligations.EveryStepKeepsTheInvariant : Prop :=
  ∀ s t : State, s.Inv → step s = .next t → t.Inv

/-- R21, R25: no step changes ADDR, a header byte, or a parameter. -/
def Obligations.NoStepChangesAddrHeadersOrParameters : Prop :=
  ∀ s t : State, step s = .next t →
    t.addr = s.addr ∧ t.params = s.params ∧
    readByte t .left 0 = 0x0E#8 ∧ readByte t .right 0 = 0x01#8

/-- R32: SEQ is 0 between operations: a step from an idle block leaves it idle. -/
def Obligations.SeqIsZeroBetweenOperations : Prop :=
  ∀ s t : State, s.Idle → step s = .next t → t.Idle

/-- R34, R153: BUSLOG only grows, by at most six entries a step, and every new entry names ADDR. -/
def Obligations.BuslogGrowsByAtMostSixEntriesAStep : Prop :=
  ∀ s t : State, step s = .next t →
    ∃ new, t.buslog = s.buslog ++ new ∧ new.length ≤ 6 ∧ ∀ e ∈ new, e.addr = s.addr

/-- R94: each command word is answered by exactly one response, whatever it spells; the words after it stay as they are. -/
def Obligations.EachCommandWordGetsOneResponse : Prop :=
  ∀ (s t : State) (w : Word) (rest : List Word),
    s.Idle → s.commands = w :: rest → step s = .next t →
    t.commands = rest ∧ ∃ r, t.responses = s.responses ++ [r]

/-- R22: only SET_BRIGHTNESS and INIT write BRT. -/
def Obligations.OnlySetBrightnessAndInitWriteBrt : Prop :=
  ∀ (i : Instr) (s t : State), exec i s = .next t →
    (∀ level update, i ≠ .setBrightness level update) → i ≠ .init → t.brt = s.brt

/-- R38: the operations that draw nothing, and the bus frames, leave both images as they are; INIT does so where its bus write
fails (D7). -/
def Obligations.OnlyDrawingAndSuccessfulInitWriteImages : Prop :=
  ∀ (i : Instr) (s t : State), exec i s = .next t → isDrawing i = false →
    (i = .init → ∃ e, answerAt s 0 = .err e) → t.left = s.left ∧ t.right = s.right

/-- R178: the in-memory operations always succeed, on every operand; with R204: they make no bus write, and they leave BRT,
ADDR and SEQ alone. -/
def Obligations.InMemoryOperationsAlwaysAnswerOk : Prop :=
  ∀ (i : Instr) (s : State), isDrawing i = true →
    ∃ t, exec i s = .next t ∧ t.responses = s.responses ++ [.ok] ∧
      t = { s with left := t.left, right := t.right, phase := t.phase, responses := t.responses }

/-- R30: no operation's result depends on PHASE: from two states that differ in PHASE alone, the results differ in PHASE
alone. -/
def Obligations.NoResultDependsOnPhase : Prop :=
  ∀ (i : Instr) (s t : State) (p : Phase), exec i s = .next t →
    ∃ t', exec i { s with phase := p } = .next t' ∧ t' = { t with phase := t'.phase }

/-- R34: no operation reads BUSLOG: from two states that differ in BUSLOG alone, an operation appends the same entries and
does the same. -/
def Obligations.NoResultDependsOnBuslog : Prop :=
  ∀ (i : Instr) (s t : State) (old : List BusEntry), exec i s = .next t →
    ∃ new, t.buslog = s.buslog ++ new ∧
      exec i { s with buslog := old } = .next { t with buslog := old ++ new }

/-! The framebuffer -/

/-- R110, R111, R115: SET_PIXEL runs on every operand, sets the one bit of its cell to `on`, and changes no other bit of
either image, no header and nothing else but PHASE and the response. In-grid operands need no decision; y = 7 and x = 10 to
12 are D6, and x >= 13, whose cell has bit 8 or more, is D5 (log 10, log 11); DIRTY where no bit changes value is D8 (log 13). -/
def Obligations.SetPixelWritesExactlyItsCell : Prop :=
  ∀ (x : BitVec 4) (y : BitVec 3) (on : Bool) (s : State),
    ∃ t, exec (.setPixel x y on) s = .next t ∧
      t = { s with left := t.left, right := t.right, phase := .dirty, responses := s.responses ++ [.ok] } ∧
      ∀ h i n, i ≤ 8 → n < 8 →
        imageBit t h i n = if (h, i, n) = pixelCell x.toNat y.toNat then on else imageBit s h i n

/-- R114 (b): two in-grid SET_PIXEL operations on distinct pixels give the same state in either order. -/
def Obligations.DistinctPixelWritesCommute : Prop :=
  ∀ (x x' : BitVec 4) (y y' : BitVec 3) (on on' : Bool) (s : State),
    x.toNat < 10 → y.toNat < 7 → x'.toNat < 10 → y'.toNat < 7 → (x, y) ≠ (x', y') →
    ∃ t, execAll [.setPixel x y on, .setPixel x' y' on'] s = .next t ∧
      execAll [.setPixel x' y' on', .setPixel x y on] s = .next t

/-- R114 (a): setting an in-grid pixel that was off and clearing it again restores both images. -/
def Obligations.SetThenClearRestoresTheImages : Prop :=
  ∀ (x : BitVec 4) (y : BitVec 3) (s : State),
    x.toNat < 10 → y.toNat < 7 →
    imageBit s (pixelCell x.toNat y.toNat).1 (pixelCell x.toNat y.toNat).2.1 (pixelCell x.toNat y.toNat).2.2 = false →
    execAll [.setPixel x y true, .setPixel x y false] s =
      .next { s with phase := .dirty, responses := s.responses ++ [.ok, .ok] }

/-- R112: SET_DECIMAL sets bit 6 of L[8] to `left` and bit 7 of R[7] to `right`, and changes no other bit of either image,
no header, and nothing else but PHASE, which becomes DIRTY, and the response, which is OK; DIRTY where neither point changes
value is D8 (log 13). -/
def Obligations.SetDecimalWritesBothPointsOnly : Prop :=
  ∀ (left right : Bool) (s : State),
    ∃ t, exec (.setDecimal left right) s = .next t ∧
      t = { s with left := t.left, right := t.right, phase := .dirty, responses := s.responses ++ [.ok] } ∧
      ∀ h i n, i ≤ 8 → n < 8 →
        imageBit t h i n =
          if (h, i, n) = (.left, 8, 6) then left else if (h, i, n) = (.right, 7, 7) then right else imageBit s h i n

/-- R113: CLEAR zeroes the sixteen data bytes and nothing else, and answers OK; that PHASE becomes DIRTY is D8 (log 13). -/
def Obligations.ClearZeroesAllDataBytesOnly : Prop :=
  ∀ s : State, exec .clear s =
    .next { s with left := ⟨0#8, 0#8, 0#8, 0#8, 0#8, 0#8, 0#8, 0#8⟩,
                   right := ⟨0#8, 0#8, 0#8, 0#8, 0#8, 0#8, 0#8, 0#8⟩,
                   phase := .dirty, responses := s.responses ++ [.ok] }

/-! The rasterizer -/

/-- R131: a character code outside the table's range changes nothing and answers OK; that PHASE too is unchanged is D8 (log
13). -/
def Obligations.UnsupportedCharacterChangesNothing : Prop :=
  ∀ (x : BitVec 4) (c : BitVec 8) (s : State),
    c.toNat < s.params.glyphFirst ∨ s.params.glyphLast < c.toNat →
    exec (.setCharacter x c) s = .next { s with responses := s.responses ++ [.ok] }

/-- R131, R132, R133: a supported character is drawn: for each glyph column cx and row cy, the cell of pixel (x + cx, cy) gets
bit cy of that column, wherever the cell is inside its byte; every bit that is no such cell keeps its value; nothing else
changes but PHASE and the response. Columns past the grid rest on D5 and D6 (log 10, log 11); that PHASE is DIRTY even where
no bit changes value is D8 (log 13). -/
def Obligations.SupportedCharacterIsDrawnCellByCell : Prop :=
  ∀ (x : BitVec 4) (c : BitVec 8) (s : State),
    s.params.glyphFirst ≤ c.toNat → c.toNat ≤ s.params.glyphLast →
    ∃ t, exec (.setCharacter x c) s = .next t ∧
      t = { s with left := t.left, right := t.right, phase := .dirty, responses := s.responses ++ [.ok] } ∧
      (∀ cx cy h i n, cx < s.params.charWidth → cy < 7 → n < 8 → (h, i, n) = pixelCell (x.toNat + cx) cy →
        imageBit t h i n = (glyphColumn s.params c.toNat cx).getLsbD cy) ∧
      (∀ h i n, i ≤ 8 → n < 8 →
        (∀ cx cy, cx < s.params.charWidth → cy < 7 → (h, i, n) ≠ pixelCell (x.toNat + cx) cy) →
        imageBit t h i n = imageBit s h i n)

/-- R132: the order in which the pixels of a glyph are written does not matter: any order of the same points gives the state
that SET_CHARACTER gives. Points with x + cx >= 13 leave the state alone by the zero mask of D5 (log 10), those with x + cx from
10 to 12 follow D6 (log 11), and PHASE is DIRTY even where no bit changes value by D8 (log 13). -/
def Obligations.GlyphPixelOrderDoesNotMatter : Prop :=
  ∀ (x : BitVec 4) (c : BitVec 8) (s : State) (data : List Byte) (points : List (Nat × Nat)),
    glyphLookup s.params c.toNat = some data → points.Perm (glyphPoints s.params.charWidth) →
    exec (.setCharacter x c) s =
      .next { points.foldl (plotPoint x.toNat data) s with phase := .dirty, responses := s.responses ++ [.ok] }

/-! The device controller -/

/-- R142, update = 0: BRT becomes min(level, 127); no bus write; nothing else changes but the response (PHASE unchanged is
D8, log 13). -/
def Obligations.SetBrightnessWithoutUpdateStoresClampedLevel : Prop :=
  ∀ (level : BitVec 8) (s : State),
    exec (.setBrightness level false) s =
      .next { s with brt := BitVec.ofNat 8 (min level.toNat 127), responses := s.responses ++ [.ok] }

/-- R142, update = 1: BRT becomes min(level, 127) and exactly one frame [0x19, BRT] is sent; OK where the transport answers
Ok, and ERR(e) with the same store where it answers Err(e) (R175; PHASE unchanged is D8, log 13). -/
def Obligations.SetBrightnessWithUpdateStoresAndSends : Prop :=
  ∀ (level : BitVec 8) (s : State) (b : Byte), b = BitVec.ofNat 8 (min level.toNat 127) →
    (answerAt s 0 = .ok →
      exec (.setBrightness level true) s =
        .next { consumeAnswers s 1 with brt := b, buslog := s.buslog ++ [⟨s.addr, [0x19#8, b], .ok⟩],
                                        responses := s.responses ++ [.ok] }) ∧
    (∀ e, answerAt s 0 = .err e →
      exec (.setBrightness level true) s =
        .next { consumeAnswers s 1 with brt := b, buslog := s.buslog ++ [⟨s.addr, [0x19#8, b], .err e⟩],
                                        responses := s.responses ++ [.err e] })

/-- R143: INIT stores and sends the default brightness in exactly one frame, then zeroes the images; PHASE becomes INIT. -/
def Obligations.InitSendsDefaultBrightnessThenClears : Prop :=
  ∀ (s : State) (b : Byte), b = BitVec.ofNat 8 s.params.defaultBrightness.val → answerAt s 0 = .ok →
    exec .init s =
      .next { consumeAnswers s 1 with brt := b, left := zeroImage, right := zeroImage, phase := .init,
                                      buslog := s.buslog ++ [⟨s.addr, [0x19#8, b], .ok⟩],
                                      responses := s.responses ++ [.ok] }

/-- R143, R175: where its bus write fails, INIT answers ERR(e); BRT holds the default, the images and PHASE are as before (the
spec's decisions D7 and D8, log 12, log 13). -/
def Obligations.FailedInitStoresBrightnessOnly : Prop :=
  ∀ (s : State) (b : Byte) (e : TransportError),
    b = BitVec.ofNat 8 s.params.defaultBrightness.val → answerAt s 0 = .err e →
    exec .init s =
      .next { consumeAnswers s 1 with brt := b, buslog := s.buslog ++ [⟨s.addr, [0x19#8, b], .err e⟩],
                                      responses := s.responses ++ [.err e] }

/-- R144: where all six writes are answered Ok, SHOW sends exactly the six frames in order, PHASE becomes INIT, the response is
OK, and nothing else changes. -/
def Obligations.SuccessfulShowSendsSixFramesInOrder : Prop :=
  ∀ s : State, (∀ k, k < 6 → answerAt s k = .ok) →
    exec .commit s =
      .next { consumeAnswers s 6 with seq := 0, phase := .init, buslog := s.buslog ++ okEntries s.addr (commitFrames s),
                                      responses := s.responses ++ [.ok] }

/-- R144, R151, R175: where the first failing write is the one after k good ones, SHOW sends exactly those k + 1 frames, and
answers ERR(e) with that write's error; images, BRT and ADDR are unchanged. PHASE becomes DIRTY (from UNINIT and INIT
by D8, log 13). -/
def Obligations.FailedShowStopsAtTheFirstFailure : Prop :=
  ∀ (s : State) (k : Nat) (bytes : List Byte) (e : TransportError),
    (commitFrames s)[k]? = some bytes → (∀ j, j < k → answerAt s j = .ok) → answerAt s k = .err e →
    exec .commit s =
      .next { consumeAnswers s (k + 1) with
                seq := 0, phase := .dirty,
                buslog := s.buslog ++ okEntries s.addr ((commitFrames s).take k) ++ [⟨s.addr, bytes, .err e⟩],
                responses := s.responses ++ [.err e] }

/-- R145: SHOW's first write is the left register image verbatim, header 0x0E, nine bytes in index order; its last byte
carries the left decimal point in bit 6. -/
def Obligations.ShowFirstSendsTheLeftImageVerbatim : Prop :=
  ∀ s : State, ∃ t e rest, exec .commit s = .next t ∧ t.buslog = s.buslog ++ e :: rest ∧
    e.addr = s.addr ∧
    e.payload = [0x0E#8, readByte s .left 1, readByte s .left 2, readByte s .left 3, readByte s .left 4,
                 readByte s .left 5, readByte s .left 6, readByte s .left 7, readByte s .left 8] ∧
    (e.payload.getD 8 0#8).getLsbD 6 = imageBit s .left 8 6

/-- R147, R148, and the like for the other steps: the k-th write of SHOW is the k-th frame of `commitFrames`, the mode and options
frames among them with their constant values, in every state; it is issued exactly where every write before it answered Ok, and
SHOW answers OK exactly where all six did. -/
def Obligations.ShowIssuesAFrameOnlyAfterThePreviousOk : Prop :=
  ∀ s : State, ∃ t new, exec .commit s = .next t ∧ t.buslog = s.buslog ++ new ∧
    (∀ k, k < 6 → (k < new.length ↔ ∀ j, j < k → answerAt s j = .ok)) ∧
    (∀ k e, new[k]? = some e →
      e.addr = s.addr ∧ (commitFrames s)[k]? = some e.payload ∧ e.result = answerAt s k) ∧
    (t.responses = s.responses ++ [.ok] ↔ ∀ j, j < 6 → answerAt s j = .ok)

/-- R32, R144: SHOW as one operation is the sequencer's walk: from SEQ = 1, k steps of the machine, one frame each, k the number
of frames sent, end in the state that SHOW gives, with SEQ back at 0 (the walk as steps is the model's choice, log 8). -/
def Obligations.ShowIsTheSequencersWalkFrameByFrame : Prop :=
  ∀ s : State, ∃ k t, 1 ≤ k ∧ k ≤ 6 ∧
    Sys2Proof.core.run k { s with seq := 1 } = .next t ∧ exec .commit s = .next t ∧
    t.seq = 0 ∧ t.buslog.length = s.buslog.length + k

/-! The bus frames -/

/-- R145 to R149 and R32: where the transport answers Ok, each of the first five frames is written as it is, SEQ advances to the
next step, and nothing else changes (log 8). -/
def Obligations.FrameStepSendsItsFrameAndAdvancesSeq : Prop :=
  ∀ (s : State), answerAt s 0 = .ok →
    (∀ d : Image, exec (.leftImage d) s =
      .next { consumeAnswers s 1 with
                seq := 2,
                buslog := s.buslog ++ [⟨s.addr, [0x0E#8, d.d0, d.d1, d.d2, d.d3, d.d4, d.d5, d.d6, d.d7], .ok⟩] }) ∧
    (∀ d : Image, exec (.rightImage d) s =
      .next { consumeAnswers s 1 with
                seq := 3,
                buslog := s.buslog ++ [⟨s.addr, [0x01#8, d.d0, d.d1, d.d2, d.d3, d.d4, d.d5, d.d6, d.d7], .ok⟩] }) ∧
    exec .mode s =
      .next { consumeAnswers s 1 with seq := 4, buslog := s.buslog ++ [⟨s.addr, [0x00#8, 0x18#8], .ok⟩] } ∧
    exec .options s =
      .next { consumeAnswers s 1 with seq := 5, buslog := s.buslog ++ [⟨s.addr, [0x0D#8, 0x0E#8], .ok⟩] } ∧
    (∀ level : Byte, exec (.brightness level) s =
      .next { consumeAnswers s 1 with seq := 6, buslog := s.buslog ++ [⟨s.addr, [0x19#8, level], .ok⟩] })

/-- R150 and R32: where the transport answers Ok to the update frame, SHOW ends: SEQ 0, PHASE INIT, response OK. -/
def Obligations.UpdateFrameEndsTheCommit : Prop :=
  ∀ s : State, answerAt s 0 = .ok →
    exec .update s =
      .next { consumeAnswers s 1 with seq := 0, phase := .init,
                                      buslog := s.buslog ++ [⟨s.addr, [0x0C#8, 0x01#8], .ok⟩],
                                      responses := s.responses ++ [.ok] }

/-- R151, R32: where the transport answers Err(e) to any of the six frames, the commit ends with ERR(e), SEQ 0, one more BUSLOG
entry, and nothing rolled back (PHASE DIRTY is D8 from a phase other than DIRTY, log 13). -/
def Obligations.FailedFrameAbortsTheCommit : Prop :=
  ∀ (i : Instr) (bytes : List Byte) (s : State) (e : TransportError),
    encode i = .frame bytes → answerAt s 0 = .err e →
    exec i s =
      .next { consumeAnswers s 1 with seq := 0, phase := .dirty, buslog := s.buslog ++ [⟨s.addr, bytes, .err e⟩],
                                      responses := s.responses ++ [.err e] }

/-- R30 and R94: the 2-bit codes of PHASE and of the response status; the code 3 is produced by neither (D8, D1). -/
def Obligations.StatusCodesAreTheSpecs : Prop :=
  Phase.uninit.code = 0#2 ∧ Phase.init.code = 1#2 ∧ Phase.dirty.code = 2#2 ∧
  Response.ok.status = 0#2 ∧ (∀ e, (Response.err e).status = 1#2) ∧ Response.ill.status = 2#2 ∧
  (∀ p : Phase, p.code ≠ 3#2) ∧ (∀ r : Response, r.status ≠ 3#2)
end

