-- ==== Sys2Proof/Laws/Decode.lean ====
section
/-! SUPPORT. The bits of a placed field, from which every bit of an encoded command word follows. -/

namespace Sys2Proof

theorem flagBit_getLsbD (b : Bool) (i : Nat) : (flagBit b).getLsbD i = (decide (i = 0) && b) := by
  simp [flagBit]

/-- Bit i of a placed field is bit i - lo of the operand, and 0 below the field. -/
theorem placeField_getLsbD {n : Nat} (lo : Nat) (v : BitVec n) (i : Nat) :
    (placeField lo v).getLsbD i = (decide (i < 16) && decide (lo ≤ i) && v.getLsbD (i - lo)) := by
  simp only [placeField, BitVec.getLsbD_shiftLeft, BitVec.getLsbD_setWidth]
  by_cases h : i < 16 <;> by_cases h' : i < lo <;> simp [h, h', Nat.not_le.2, Nat.not_lt.1]
  all_goals omega

/-- A word whose reserved bits are 0 spells its instruction, another spells none (R93). -/
theorem whenReservedZero_eq_instr (w mask : Word) (i j : Instr) :
    whenReservedZero w mask i = .instr j ↔ w &&& mask = 0#16 ∧ i = j := by
  unfold whenReservedZero; split <;> simp_all

theorem whenData_eq_instr (rest : List Byte) (data : Byte) (i j : Instr) :
    whenData rest data i = .instr j ↔ rest = [data] ∧ i = j := by
  unfold whenData; split <;> simp_all

theorem imageOfBytes_eq_some (bytes : List Byte) (d : Image) :
    imageOfBytes bytes = some d ↔ bytes = [d.d0, d.d1, d.d2, d.d3, d.d4, d.d5, d.d6, d.d7] := by
  unfold imageOfBytes
  cases d
  split
  · simp [Image.mk.injEq]
  · rename_i h
    simp only [reduceCtorEq, false_iff]
    intro hb
    exact h _ _ _ _ _ _ _ _ hb

theorem decodeBrightness_eq_instr (bytes : List Byte) (j : Instr) :
    decodeBrightness bytes = .instr j ↔ ∃ b, bytes = [b] ∧ b.getLsbD 7 = false ∧ .brightness b = j := by
  unfold decodeBrightness
  split
  · split <;> simp_all
  · rename_i h
    simp only [reduceCtorEq, false_iff]
    rintro ⟨b, hb, -⟩
    exact h b hb

/-- What a frame decodes to, by its first byte (R92, R98). -/
theorem decodeFrame_eq_instr (d : Byte) (r : List Byte) (i : Instr) :
    decodeFrame (d :: r) = .instr i ↔
   (d = 0x0E#8 ∧ ∃ m, imageOfBytes r = some m ∧ .leftImage m = i) ∨
   (d = 0x01#8 ∧ ∃ m, imageOfBytes r = some m ∧ .rightImage m = i) ∨
   (d = 0x00#8 ∧ r = [0x18#8] ∧ .mode = i) ∨
   (d = 0x0D#8 ∧ r = [0x0E#8] ∧ .options = i) ∨
   (d = 0x19#8 ∧ ∃ b, r = [b] ∧ b.getLsbD 7 = false ∧ .brightness b = i) ∨
   (d = 0x0C#8 ∧ r = [0x01#8] ∧ .update = i) := by
  unfold decodeFrame
  simp only [Machine.hdrLeft, Machine.hdrRight, Machine.regMode, Machine.regOptions, Machine.regBrightness,
    Machine.regUpdate, Machine.valMode, Machine.valOptions, Machine.valUpdate]
  by_cases h1 : d = 14#8
  · subst h1; cases imageOfBytes r <;> simp
  by_cases h2 : d = 1#8
  · subst h2; cases imageOfBytes r <;> simp
  by_cases h3 : d = 0#8
  · subst h3; simp [whenData_eq_instr]
  by_cases h4 : d = 13#8
  · subst h4; simp [whenData_eq_instr]
  by_cases h5 : d = 25#8
  · subst h5; simp [decodeBrightness_eq_instr]
  by_cases h6 : d = 12#8
  · subst h6; simp [whenData_eq_instr]
  simp [h1, h2, h3, h4, h5, h6]

end Sys2Proof
end

