-- ==== Sys2Proof/Laws/State.lean ====
section
/-! SUPPORT. One lemma per field per update: what each shared update leaves in each field of State. -/

namespace Sys2Proof.Machine

/-! `respond` -/

@[simp] theorem respond_addr (r : Response) (s : State) :
    (respond r s).addr = s.addr := rfl
@[simp] theorem respond_brt (r : Response) (s : State) :
    (respond r s).brt = s.brt := rfl
@[simp] theorem respond_left (r : Response) (s : State) :
    (respond r s).left = s.left := rfl
@[simp] theorem respond_right (r : Response) (s : State) :
    (respond r s).right = s.right := rfl
@[simp] theorem respond_phase (r : Response) (s : State) :
    (respond r s).phase = s.phase := rfl
@[simp] theorem respond_seq (r : Response) (s : State) :
    (respond r s).seq = s.seq := rfl
@[simp] theorem respond_buslog (r : Response) (s : State) :
    (respond r s).buslog = s.buslog := rfl
@[simp] theorem respond_params (r : Response) (s : State) :
    (respond r s).params = s.params := rfl
@[simp] theorem respond_commands (r : Response) (s : State) :
    (respond r s).commands = s.commands := rfl
@[simp] theorem respond_answers (r : Response) (s : State) :
    (respond r s).answers = s.answers := rfl
@[simp] theorem respond_draws (r : Response) (s : State) :
    (respond r s).draws = s.draws := rfl
@[simp] theorem respond_responses (r : Response) (s : State) :
    (respond r s).responses = s.responses ++ [r] := rfl

/-! `raiseTransport` -/

@[simp] theorem raiseTransport_addr (e : TransportError) (s : State) :
    (raiseTransport e s).addr = s.addr := rfl
@[simp] theorem raiseTransport_brt (e : TransportError) (s : State) :
    (raiseTransport e s).brt = s.brt := rfl
@[simp] theorem raiseTransport_left (e : TransportError) (s : State) :
    (raiseTransport e s).left = s.left := rfl
@[simp] theorem raiseTransport_right (e : TransportError) (s : State) :
    (raiseTransport e s).right = s.right := rfl
@[simp] theorem raiseTransport_phase (e : TransportError) (s : State) :
    (raiseTransport e s).phase = s.phase := rfl
@[simp] theorem raiseTransport_seq (e : TransportError) (s : State) :
    (raiseTransport e s).seq = s.seq := rfl
@[simp] theorem raiseTransport_buslog (e : TransportError) (s : State) :
    (raiseTransport e s).buslog = s.buslog := rfl
@[simp] theorem raiseTransport_params (e : TransportError) (s : State) :
    (raiseTransport e s).params = s.params := rfl
@[simp] theorem raiseTransport_commands (e : TransportError) (s : State) :
    (raiseTransport e s).commands = s.commands := rfl
@[simp] theorem raiseTransport_answers (e : TransportError) (s : State) :
    (raiseTransport e s).answers = s.answers := rfl
@[simp] theorem raiseTransport_draws (e : TransportError) (s : State) :
    (raiseTransport e s).draws = s.draws := rfl
@[simp] theorem raiseTransport_responses (e : TransportError) (s : State) :
    (raiseTransport e s).responses = s.responses ++ [.err e] := rfl

/-! `raiseIllegal` -/

@[simp] theorem raiseIllegal_addr (s : State) :
    (raiseIllegal s).addr = s.addr := rfl
@[simp] theorem raiseIllegal_brt (s : State) :
    (raiseIllegal s).brt = s.brt := rfl
@[simp] theorem raiseIllegal_left (s : State) :
    (raiseIllegal s).left = s.left := rfl
@[simp] theorem raiseIllegal_right (s : State) :
    (raiseIllegal s).right = s.right := rfl
@[simp] theorem raiseIllegal_phase (s : State) :
    (raiseIllegal s).phase = s.phase := rfl
@[simp] theorem raiseIllegal_seq (s : State) :
    (raiseIllegal s).seq = s.seq := rfl
@[simp] theorem raiseIllegal_buslog (s : State) :
    (raiseIllegal s).buslog = s.buslog := rfl
@[simp] theorem raiseIllegal_params (s : State) :
    (raiseIllegal s).params = s.params := rfl
@[simp] theorem raiseIllegal_commands (s : State) :
    (raiseIllegal s).commands = s.commands := rfl
@[simp] theorem raiseIllegal_answers (s : State) :
    (raiseIllegal s).answers = s.answers := rfl
@[simp] theorem raiseIllegal_draws (s : State) :
    (raiseIllegal s).draws = s.draws := rfl
@[simp] theorem raiseIllegal_responses (s : State) :
    (raiseIllegal s).responses = s.responses ++ [.ill] := rfl

/-! `markMutated` -/

@[simp] theorem markMutated_addr (s : State) :
    (markMutated s).addr = s.addr := rfl
@[simp] theorem markMutated_brt (s : State) :
    (markMutated s).brt = s.brt := rfl
@[simp] theorem markMutated_left (s : State) :
    (markMutated s).left = s.left := rfl
@[simp] theorem markMutated_right (s : State) :
    (markMutated s).right = s.right := rfl
@[simp] theorem markMutated_phase (s : State) :
    (markMutated s).phase = .dirty := rfl
@[simp] theorem markMutated_seq (s : State) :
    (markMutated s).seq = s.seq := rfl
@[simp] theorem markMutated_buslog (s : State) :
    (markMutated s).buslog = s.buslog := rfl
@[simp] theorem markMutated_params (s : State) :
    (markMutated s).params = s.params := rfl
@[simp] theorem markMutated_commands (s : State) :
    (markMutated s).commands = s.commands := rfl
@[simp] theorem markMutated_answers (s : State) :
    (markMutated s).answers = s.answers := rfl
@[simp] theorem markMutated_draws (s : State) :
    (markMutated s).draws = s.draws := rfl
@[simp] theorem markMutated_responses (s : State) :
    (markMutated s).responses = s.responses := rfl

/-! `markInitialised` -/

@[simp] theorem markInitialised_addr (s : State) :
    (markInitialised s).addr = s.addr := rfl
@[simp] theorem markInitialised_brt (s : State) :
    (markInitialised s).brt = s.brt := rfl
@[simp] theorem markInitialised_left (s : State) :
    (markInitialised s).left = s.left := rfl
@[simp] theorem markInitialised_right (s : State) :
    (markInitialised s).right = s.right := rfl
@[simp] theorem markInitialised_phase (s : State) :
    (markInitialised s).phase = .init := rfl
@[simp] theorem markInitialised_seq (s : State) :
    (markInitialised s).seq = s.seq := rfl
@[simp] theorem markInitialised_buslog (s : State) :
    (markInitialised s).buslog = s.buslog := rfl
@[simp] theorem markInitialised_params (s : State) :
    (markInitialised s).params = s.params := rfl
@[simp] theorem markInitialised_commands (s : State) :
    (markInitialised s).commands = s.commands := rfl
@[simp] theorem markInitialised_answers (s : State) :
    (markInitialised s).answers = s.answers := rfl
@[simp] theorem markInitialised_draws (s : State) :
    (markInitialised s).draws = s.draws := rfl
@[simp] theorem markInitialised_responses (s : State) :
    (markInitialised s).responses = s.responses := rfl

/-! `markCommitted` -/

@[simp] theorem markCommitted_addr (s : State) :
    (markCommitted s).addr = s.addr := rfl
@[simp] theorem markCommitted_brt (s : State) :
    (markCommitted s).brt = s.brt := rfl
@[simp] theorem markCommitted_left (s : State) :
    (markCommitted s).left = s.left := rfl
@[simp] theorem markCommitted_right (s : State) :
    (markCommitted s).right = s.right := rfl
@[simp] theorem markCommitted_phase (s : State) :
    (markCommitted s).phase = .init := rfl
@[simp] theorem markCommitted_seq (s : State) :
    (markCommitted s).seq = s.seq := rfl
@[simp] theorem markCommitted_buslog (s : State) :
    (markCommitted s).buslog = s.buslog := rfl
@[simp] theorem markCommitted_params (s : State) :
    (markCommitted s).params = s.params := rfl
@[simp] theorem markCommitted_commands (s : State) :
    (markCommitted s).commands = s.commands := rfl
@[simp] theorem markCommitted_answers (s : State) :
    (markCommitted s).answers = s.answers := rfl
@[simp] theorem markCommitted_draws (s : State) :
    (markCommitted s).draws = s.draws := rfl
@[simp] theorem markCommitted_responses (s : State) :
    (markCommitted s).responses = s.responses := rfl

/-! `markCommitFailed` -/

@[simp] theorem markCommitFailed_addr (s : State) :
    (markCommitFailed s).addr = s.addr := rfl
@[simp] theorem markCommitFailed_brt (s : State) :
    (markCommitFailed s).brt = s.brt := rfl
@[simp] theorem markCommitFailed_left (s : State) :
    (markCommitFailed s).left = s.left := rfl
@[simp] theorem markCommitFailed_right (s : State) :
    (markCommitFailed s).right = s.right := rfl
@[simp] theorem markCommitFailed_phase (s : State) :
    (markCommitFailed s).phase = .dirty := rfl
@[simp] theorem markCommitFailed_seq (s : State) :
    (markCommitFailed s).seq = s.seq := rfl
@[simp] theorem markCommitFailed_buslog (s : State) :
    (markCommitFailed s).buslog = s.buslog := rfl
@[simp] theorem markCommitFailed_params (s : State) :
    (markCommitFailed s).params = s.params := rfl
@[simp] theorem markCommitFailed_commands (s : State) :
    (markCommitFailed s).commands = s.commands := rfl
@[simp] theorem markCommitFailed_answers (s : State) :
    (markCommitFailed s).answers = s.answers := rfl
@[simp] theorem markCommitFailed_draws (s : State) :
    (markCommitFailed s).draws = s.draws := rfl
@[simp] theorem markCommitFailed_responses (s : State) :
    (markCommitFailed s).responses = s.responses := rfl

/-! `zeroImages` -/

@[simp] theorem zeroImages_addr (s : State) :
    (zeroImages s).addr = s.addr := rfl
@[simp] theorem zeroImages_brt (s : State) :
    (zeroImages s).brt = s.brt := rfl
@[simp] theorem zeroImages_left (s : State) :
    (zeroImages s).left = zeroImage := rfl
@[simp] theorem zeroImages_right (s : State) :
    (zeroImages s).right = zeroImage := rfl
@[simp] theorem zeroImages_phase (s : State) :
    (zeroImages s).phase = s.phase := rfl
@[simp] theorem zeroImages_seq (s : State) :
    (zeroImages s).seq = s.seq := rfl
@[simp] theorem zeroImages_buslog (s : State) :
    (zeroImages s).buslog = s.buslog := rfl
@[simp] theorem zeroImages_params (s : State) :
    (zeroImages s).params = s.params := rfl
@[simp] theorem zeroImages_commands (s : State) :
    (zeroImages s).commands = s.commands := rfl
@[simp] theorem zeroImages_answers (s : State) :
    (zeroImages s).answers = s.answers := rfl
@[simp] theorem zeroImages_draws (s : State) :
    (zeroImages s).draws = s.draws := rfl
@[simp] theorem zeroImages_responses (s : State) :
    (zeroImages s).responses = s.responses := rfl

/-! `storeBrightness` -/

@[simp] theorem storeBrightness_addr (level : Nat) (s : State) :
    (storeBrightness level s).addr = s.addr := rfl
@[simp] theorem storeBrightness_brt (level : Nat) (s : State) :
    (storeBrightness level s).brt = clampLevel level := rfl
@[simp] theorem storeBrightness_left (level : Nat) (s : State) :
    (storeBrightness level s).left = s.left := rfl
@[simp] theorem storeBrightness_right (level : Nat) (s : State) :
    (storeBrightness level s).right = s.right := rfl
@[simp] theorem storeBrightness_phase (level : Nat) (s : State) :
    (storeBrightness level s).phase = s.phase := rfl
@[simp] theorem storeBrightness_seq (level : Nat) (s : State) :
    (storeBrightness level s).seq = s.seq := rfl
@[simp] theorem storeBrightness_buslog (level : Nat) (s : State) :
    (storeBrightness level s).buslog = s.buslog := rfl
@[simp] theorem storeBrightness_params (level : Nat) (s : State) :
    (storeBrightness level s).params = s.params := rfl
@[simp] theorem storeBrightness_commands (level : Nat) (s : State) :
    (storeBrightness level s).commands = s.commands := rfl
@[simp] theorem storeBrightness_answers (level : Nat) (s : State) :
    (storeBrightness level s).answers = s.answers := rfl
@[simp] theorem storeBrightness_draws (level : Nat) (s : State) :
    (storeBrightness level s).draws = s.draws := rfl
@[simp] theorem storeBrightness_responses (level : Nat) (s : State) :
    (storeBrightness level s).responses = s.responses := rfl

/-! `takeCommand` -/

@[simp] theorem takeCommand_addr (s : State) :
    (takeCommand s).addr = s.addr := rfl
@[simp] theorem takeCommand_brt (s : State) :
    (takeCommand s).brt = s.brt := rfl
@[simp] theorem takeCommand_left (s : State) :
    (takeCommand s).left = s.left := rfl
@[simp] theorem takeCommand_right (s : State) :
    (takeCommand s).right = s.right := rfl
@[simp] theorem takeCommand_phase (s : State) :
    (takeCommand s).phase = s.phase := rfl
@[simp] theorem takeCommand_seq (s : State) :
    (takeCommand s).seq = s.seq := rfl
@[simp] theorem takeCommand_buslog (s : State) :
    (takeCommand s).buslog = s.buslog := rfl
@[simp] theorem takeCommand_params (s : State) :
    (takeCommand s).params = s.params := rfl
@[simp] theorem takeCommand_commands (s : State) :
    (takeCommand s).commands = s.commands.tail := rfl
@[simp] theorem takeCommand_answers (s : State) :
    (takeCommand s).answers = s.answers := rfl
@[simp] theorem takeCommand_draws (s : State) :
    (takeCommand s).draws = s.draws := rfl
@[simp] theorem takeCommand_responses (s : State) :
    (takeCommand s).responses = s.responses := rfl

/-! `writeByte` -/

@[simp] theorem writeByte_addr (s : State) (h : Half) (i : Nat) (v : Byte) :
    (writeByte s h i v).addr = s.addr := by cases h <;> rfl
@[simp] theorem writeByte_brt (s : State) (h : Half) (i : Nat) (v : Byte) :
    (writeByte s h i v).brt = s.brt := by cases h <;> rfl
@[simp] theorem writeByte_phase (s : State) (h : Half) (i : Nat) (v : Byte) :
    (writeByte s h i v).phase = s.phase := by cases h <;> rfl
@[simp] theorem writeByte_seq (s : State) (h : Half) (i : Nat) (v : Byte) :
    (writeByte s h i v).seq = s.seq := by cases h <;> rfl
@[simp] theorem writeByte_buslog (s : State) (h : Half) (i : Nat) (v : Byte) :
    (writeByte s h i v).buslog = s.buslog := by cases h <;> rfl
@[simp] theorem writeByte_params (s : State) (h : Half) (i : Nat) (v : Byte) :
    (writeByte s h i v).params = s.params := by cases h <;> rfl
@[simp] theorem writeByte_commands (s : State) (h : Half) (i : Nat) (v : Byte) :
    (writeByte s h i v).commands = s.commands := by cases h <;> rfl
@[simp] theorem writeByte_answers (s : State) (h : Half) (i : Nat) (v : Byte) :
    (writeByte s h i v).answers = s.answers := by cases h <;> rfl
@[simp] theorem writeByte_draws (s : State) (h : Half) (i : Nat) (v : Byte) :
    (writeByte s h i v).draws = s.draws := by cases h <;> rfl
@[simp] theorem writeByte_responses (s : State) (h : Half) (i : Nat) (v : Byte) :
    (writeByte s h i v).responses = s.responses := by cases h <;> rfl

@[simp] theorem writeByte_left_left (s : State) (i : Nat) (v : Byte) :
    (writeByte s .left i v).left = imageSet s.left v i := rfl
@[simp] theorem writeByte_left_right (s : State) (i : Nat) (v : Byte) :
    (writeByte s .left i v).right = s.right := rfl
@[simp] theorem writeByte_right_left (s : State) (i : Nat) (v : Byte) :
    (writeByte s .right i v).left = s.left := rfl
@[simp] theorem writeByte_right_right (s : State) (i : Nat) (v : Byte) :
    (writeByte s .right i v).right = imageSet s.right v i := rfl

/-! `dropAnswer` and `busWrite` -/

@[simp] theorem dropAnswer_addr (s : State) : (dropAnswer s).addr = s.addr := by
  unfold dropAnswer; split <;> rfl
@[simp] theorem dropAnswer_brt (s : State) : (dropAnswer s).brt = s.brt := by
  unfold dropAnswer; split <;> rfl
@[simp] theorem dropAnswer_left (s : State) : (dropAnswer s).left = s.left := by
  unfold dropAnswer; split <;> rfl
@[simp] theorem dropAnswer_right (s : State) : (dropAnswer s).right = s.right := by
  unfold dropAnswer; split <;> rfl
@[simp] theorem dropAnswer_phase (s : State) : (dropAnswer s).phase = s.phase := by
  unfold dropAnswer; split <;> rfl
@[simp] theorem dropAnswer_seq (s : State) : (dropAnswer s).seq = s.seq := by
  unfold dropAnswer; split <;> rfl
@[simp] theorem dropAnswer_buslog (s : State) : (dropAnswer s).buslog = s.buslog := by
  unfold dropAnswer; split <;> rfl
@[simp] theorem dropAnswer_params (s : State) : (dropAnswer s).params = s.params := by
  unfold dropAnswer; split <;> rfl
@[simp] theorem dropAnswer_commands (s : State) : (dropAnswer s).commands = s.commands := by
  unfold dropAnswer; split <;> rfl
@[simp] theorem dropAnswer_responses (s : State) : (dropAnswer s).responses = s.responses := by
  unfold dropAnswer; split <;> rfl
@[simp] theorem dropAnswer_answers (s : State) : (dropAnswer s).answers = s.answers.tail := by
  unfold dropAnswer; split <;> simp_all
theorem dropAnswer_draws (s : State) :
    (dropAnswer s).draws = if s.answers = [] then s.draws + 1 else s.draws := by
  unfold dropAnswer; split <;> simp_all

@[simp] theorem busWrite_addr (p : List Byte) (s : State) : (busWrite p s).addr = s.addr := dropAnswer_addr s
@[simp] theorem busWrite_brt (p : List Byte) (s : State) : (busWrite p s).brt = s.brt := dropAnswer_brt s
@[simp] theorem busWrite_left (p : List Byte) (s : State) : (busWrite p s).left = s.left := dropAnswer_left s
@[simp] theorem busWrite_right (p : List Byte) (s : State) : (busWrite p s).right = s.right := dropAnswer_right s
@[simp] theorem busWrite_phase (p : List Byte) (s : State) : (busWrite p s).phase = s.phase := dropAnswer_phase s
@[simp] theorem busWrite_seq (p : List Byte) (s : State) : (busWrite p s).seq = s.seq := dropAnswer_seq s
@[simp] theorem busWrite_buslog (p : List Byte) (s : State) :
    (busWrite p s).buslog = s.buslog ++ [⟨s.addr, p, nextAnswer s⟩] := rfl
@[simp] theorem busWrite_params (p : List Byte) (s : State) : (busWrite p s).params = s.params := dropAnswer_params s
@[simp] theorem busWrite_commands (p : List Byte) (s : State) : (busWrite p s).commands = s.commands := dropAnswer_commands s
@[simp] theorem busWrite_answers (p : List Byte) (s : State) :
    (busWrite p s).answers = s.answers.tail := dropAnswer_answers s
@[simp] theorem busWrite_draws (p : List Byte) (s : State) :
    (busWrite p s).draws = (dropAnswer s).draws := rfl
@[simp] theorem busWrite_responses (p : List Byte) (s : State) : (busWrite p s).responses = s.responses := dropAnswer_responses s

end Sys2Proof.Machine
end

