-- ==== Sys2Proof/Laws/Ops.lean ====
section
/-! SUPPORT. What each shared operation can do, once: bits and masks, one byte and one bit of the image store, one bus
write, a two-byte command, a commit. -/

namespace Sys2Proof.Machine

/-! Bits and masks -/

theorem bitMask_getLsbD (n k : Nat) : (bitMask n).getLsbD k = (decide (k < 8) && decide (k = n)) := by
  simp only [bitMask, BitVec.getLsbD_shiftLeft, BitVec.getLsbD_one]
  by_cases hk : k < 8 <;> by_cases hn : k < n <;> by_cases he : k = n <;> simp [hk, hn, he]
  all_goals omega

/-- A byte after a mask is applied: the named bit is `on`, every other bit is as before; a mask past bit 7 changes
nothing. -/
theorem applyMask_getLsbD (on : Bool) (n : Nat) (b : Byte) (k : Nat) :
    (applyMask on (bitMask n) b).getLsbD k = if k < 8 ∧ k = n then on else b.getLsbD k := by
  by_cases hk : k < 8
  · cases on
    · simp only [applyMask, Bool.false_eq_true, if_false, BitVec.getLsbD_and, BitVec.getLsbD_not, bitMask_getLsbD]
      by_cases he : k = n
      · subst he; simp [hk]
      · simp [hk, he]
    · simp only [applyMask, if_true, BitVec.getLsbD_or, bitMask_getLsbD]
      by_cases he : k = n
      · subst he; simp [hk]
      · simp [hk, he]
  · have hb : b.getLsbD k = false := BitVec.getLsbD_of_ge b k (by omega)
    cases on <;> simp [applyMask, bitMask_getLsbD, hk, hb]

theorem clampLevel_toNat (level : Nat) : (clampLevel level).toNat = min level 127 := by
  unfold clampLevel maxBrightness
  split <;> simp [BitVec.toNat_ofNat] <;> omega

/-! The image store -/

theorem imageGet_imageSet (m : Image) (v : Byte) {i : Nat} (j : Nat) (hi : 1 ≤ i) (hi' : i ≤ 8) :
    imageGet (imageSet m v i) j = if j = i then v else imageGet m j := by
  have : i = 1 ∨ i = 2 ∨ i = 3 ∨ i = 4 ∨ i = 5 ∨ i = 6 ∨ i = 7 ∨ i = 8 := by omega
  rcases this with h | h | h | h | h | h | h | h <;> subst h <;> unfold imageGet imageSet <;> split <;> simp_all

@[simp] theorem readByte_zero (s : State) (h : Half) : readByte s h 0 = headerOf h := rfl

/-- Read after write: the byte written is the value, every other byte, the headers among them, is as before. -/
theorem readByte_writeByte (s : State) (h h' : Half) (v : Byte) {i : Nat} (j : Nat) (hi : 1 ≤ i) (hi' : i ≤ 8) :
    readByte (writeByte s h i v) h' j = if h' = h ∧ j = i then v else readByte s h' j := by
  by_cases hj : j = 0
  · subst hj; simp; omega
  · cases h <;> cases h' <;> simp [readByte, imageOf, hj, imageGet_imageSet _ _ _ hi hi']

/-- Bit after bit write: the bit written is `on`, every other bit of both images is as before. -/
theorem imageBit_writeBit (s : State) (h h' : Half) (n : Nat) (on : Bool) {i : Nat} (j k : Nat)
    (hi : 1 ≤ i) (hi' : i ≤ 8) :
    imageBit (writeBit s h i n on) h' j k =
      if h' = h ∧ j = i ∧ k < 8 ∧ k = n then on else imageBit s h' j k := by
  unfold imageBit writeBit
  rw [readByte_writeByte s h h' _ j hi hi']
  by_cases hc : h' = h ∧ j = i
  · obtain ⟨rfl, rfl⟩ := hc
    simp [applyMask_getLsbD]
  · rw [if_neg hc, if_neg (by tauto)]

theorem pixIndex_bounds {x y : Nat} (hy : y < 8) : 1 ≤ pixIndex x y ∧ pixIndex x y ≤ 8 := by
  unfold pixIndex halfW; split <;> omega

/-- The operand forms of the machine are the spec's own formulas. -/
theorem pixCell_eq (x y : Nat) : pixelCell x y = (pixHalf x, pixIndex x y, pixBit x y) := by
  unfold pixelCell pixHalf pixIndex pixBit halfW; split <;> rfl

/-- PIX changes at most the one bit of its cell. -/
theorem imageBit_pix (s : State) (x : Nat) {y : Nat} (on : Bool) (h : Half) (j k : Nat) (hy : y < 8) :
    imageBit (pix x y on s) h j k =
      if (h, j, k) = pixelCell x y ∧ k < 8 then on else imageBit s h j k := by
  obtain ⟨h1, h2⟩ := pixIndex_bounds (x := x) hy
  unfold pix
  rw [imageBit_writeBit s _ _ _ _ j k h1 h2, pixCell_eq]
  simp only [Prod.mk.injEq]
  congr 1
  simp only [eq_iff_iff]
  tauto

/-- PIX changes nothing but the images. -/
theorem pix_frame (x y : Nat) (on : Bool) (s : State) :
    pix x y on s = { s with left := (pix x y on s).left, right := (pix x y on s).right } := by
  unfold pix writeBit writeByte; split <;> rfl

/-- Two images with the same bits are equal: an image is its 64 data bits. -/
theorem image_ext {s t : State}
    (hb : ∀ h i n, 1 ≤ i → i ≤ 8 → n < 8 → imageBit s h i n = imageBit t h i n) :
    s.left = t.left ∧ s.right = t.right := by
  have byte : ∀ h i, 1 ≤ i → i ≤ 8 → readByte s h i = readByte t h i := fun h i h1 h2 =>
    BitVec.eq_of_getLsbD_eq fun n hn => hb h i n h1 h2 hn
  have get : ∀ h i, 1 ≤ i → i ≤ 8 → imageGet (imageOf s h) i = imageGet (imageOf t h) i := by
    intro h i h1 h2
    have := byte h i h1 h2
    simpa [readByte, show i ≠ 0 by omega] using this
  have one : ∀ m m' : Image, (∀ i, 1 ≤ i → i ≤ 8 → imageGet m i = imageGet m' i) → m = m' := by
    intro m m' hm
    cases m; cases m'
    simp only [Image.mk.injEq]
    exact ⟨hm 1 (by omega) (by omega), hm 2 (by omega) (by omega), hm 3 (by omega) (by omega),
      hm 4 (by omega) (by omega), hm 5 (by omega) (by omega), hm 6 (by omega) (by omega),
      hm 7 (by omega) (by omega), hm 8 (by omega) (by omega)⟩
  exact ⟨one _ _ (get .left), one _ _ (get .right)⟩

/-! The bus -/

theorem nextAnswer_eq (s : State) : nextAnswer s = answerAt s 0 := by
  unfold nextAnswer answerAt
  cases hs : s.answers <;> simp

theorem dropAnswer_eq (s : State) : dropAnswer s = consumeAnswers s 1 := by
  unfold dropAnswer consumeAnswers
  cases hs : s.answers <;> simp

/-- A bus write takes one answer and appends one entry; the block's own state is untouched (R140). -/
theorem busWrite_eq (p : List Byte) (s : State) :
    busWrite p s = { consumeAnswers s 1 with buslog := s.buslog ++ [⟨s.addr, p, answerAt s 0⟩] } := by
  unfold busWrite
  rw [dropAnswer_eq, nextAnswer_eq]

theorem answerAt_busWrite (p : List Byte) (s : State) (k : Nat) :
    answerAt (busWrite p s) k = answerAt s (k + 1) := by
  rw [busWrite_eq]
  cases hs : s.answers with
  | nil => simp [answerAt, consumeAnswers, hs]; congr 1; omega
  | cons a r => simp [answerAt, consumeAnswers, hs]

/-- A two-byte command continues on Ok and raises TransportError(e) on Err(e) (R141). -/
theorem sendCmd_cases (cmd data : Byte) (s : State) (k : State → State) :
    (answerAt s 0 = .ok ∧ sendCmd cmd data s k = k (busWrite (commandFrame cmd data) s)) ∨
    (∃ e, answerAt s 0 = .err e ∧ sendCmd cmd data s k = raiseTransport e (busWrite (commandFrame cmd data) s)) := by
  unfold sendCmd
  rw [nextAnswer_eq]
  cases h : answerAt s 0 with
  | ok => exact .inl ⟨rfl, rfl⟩
  | err e => exact .inr ⟨e, rfl, rfl⟩

/-- One round of a commit. -/
theorem sendFrames_cons_cases (f : List Byte) (rest : List (List Byte)) (s : State) :
    (answerAt s 0 = .ok ∧ sendFrames (f :: rest) s = sendFrames rest (busWrite f s)) ∨
    (∃ e, answerAt s 0 = .err e ∧ sendFrames (f :: rest) s = abortShow e (busWrite f s)) := by
  rw [sendFrames, nextAnswer_eq]
  cases h : answerAt s 0 with
  | ok => exact .inl ⟨rfl, rfl⟩
  | err e => exact .inr ⟨e, rfl, rfl⟩

/-- One step of the sequencer advances SEQ, ends SHOW or aborts it. -/
theorem sequencerStep_cases (k : Fin 7) (p : List Byte) (s : State) :
    (answerAt s 0 = .ok ∧ k = 6 ∧ sequencerStep k p s = endShow (busWrite p s)) ∨
    (answerAt s 0 = .ok ∧ k ≠ 6 ∧ sequencerStep k p s = { busWrite p s with seq := k + 1 }) ∨
    (∃ e, answerAt s 0 = .err e ∧ sequencerStep k p s = abortShow e (busWrite p s)) := by
  unfold sequencerStep
  rw [nextAnswer_eq]
  cases h : answerAt s 0 with
  | ok =>
    by_cases hk : k = 6
    · exact .inl ⟨rfl, hk, by simp [hk]⟩
    · exact .inr (.inl ⟨rfl, hk, by simp [hk]⟩)
  | err e => exact .inr (.inr ⟨e, rfl, rfl⟩)

/-- The frames the machine forms are the frames of the wire table, byte by byte. -/
theorem showFrames_eq (s : State) : showFrames s = commitFrames s := rfl

/-! Decoding a step -/

/-- What one step can do. -/
theorem step_cases (s : State) :
    (∃ i, sequencerInstr s = some i ∧ step s = exec i s) ∨
    (sequencerInstr s = none ∧ s.commands = [] ∧ step s = .next s) ∨
    (∃ w rest i, sequencerInstr s = none ∧ s.commands = w :: rest ∧ decodeCommand w = .instr i ∧
      step s = exec i (takeCommand s)) ∨
    (∃ w rest r, sequencerInstr s = none ∧ s.commands = w :: rest ∧ decodeCommand w = .reject r ∧
      step s = .next (raiseIllegal (takeCommand s))) := by
  unfold step
  cases hq : sequencerInstr s with
  | some i => exact .inl ⟨i, rfl, rfl⟩
  | none =>
    cases hc : s.commands with
    | nil => exact .inr (.inl ⟨rfl, rfl, rfl⟩)
    | cons w rest =>
      cases hd : decodeCommand w with
      | instr i => exact .inr (.inr (.inl ⟨w, rest, i, rfl, rfl, hd, by simp [hd]⟩))
      | reject r => exact .inr (.inr (.inr ⟨w, rest, r, rfl, rfl, hd, by simp [hd]⟩))

theorem sequencerInstr_eq_none (s : State) : sequencerInstr s = none ↔ s.seq = 0 := by
  unfold sequencerInstr; split <;> simp_all

end Sys2Proof.Machine
end

