-- ==== Sys2Proof/Laws/PerInstr.lean ====
section
/-! SUPPORT. Statements about every instruction as syntax, one lemma per constructor. `EncodingWidth`: an instruction is
spelled by one command word, or by a frame of 2 or 9 bytes (R57, R81, R91). -/

namespace Sys2Proof.Laws.EncodingWidth

/-- One command word, or a frame of 2 or 9 bytes. -/
def Statement (i : Instr) : Prop :=
  match encode i with
  | .command _ => True
  | .frame bytes => bytes.length = 2 ∨ bytes.length = 9

theorem init : Statement .init := trivial
theorem setBrightness (level : BitVec 8) (update : Bool) : Statement (.setBrightness level update) := trivial
theorem setPixel (x : BitVec 4) (y : BitVec 3) (on : Bool) : Statement (.setPixel x y on) := trivial
theorem setCharacter (x : BitVec 4) (c : BitVec 8) : Statement (.setCharacter x c) := trivial
theorem setDecimal (left right : Bool) : Statement (.setDecimal left right) := trivial
theorem clear : Statement .clear := trivial
theorem commit : Statement .commit := trivial
theorem leftImage (d : Image) : Statement (.leftImage d) := .inr rfl
theorem rightImage (d : Image) : Statement (.rightImage d) := .inr rfl
theorem mode : Statement .mode := .inl rfl
theorem options : Statement .options := .inl rfl
theorem brightness (level : Byte) : Statement (.brightness level) := .inl rfl
theorem update : Statement .update := .inl rfl

end Sys2Proof.Laws.EncodingWidth
end

