-- ==== Sys2Proof/Tests/Slice0.lean ====
section
/-! SUPPORT. Tests of single steps with results from 95_test_vectors.md, words written out from the spec's encodings, the smoke
test of WellFormed, and a witness for the hypotheses of each obligation that has some. -/

namespace Sys2Proof.Tests

open Sys2Proof.Machine

/-- The sample instance of 95_test_vectors.md: CHAR_WIDTH 5, range 0x20 to 0x7E, one glyph at 0x41, DEFAULT_BRIGHTNESS 0x40.
The other glyphs are blank here. -/
def sampleParams : Params where
  defaultBrightness := 64
  charWidth := 5
  glyphFirst := 0x20
  glyphLast := 0x7E
  glyphs := List.replicate 33 (List.replicate 5 0#8) ++ [[0x7E#8, 0x11#8, 0x11#8, 0x11#8, 0x7E#8]] ++
    List.replicate 61 (List.replicate 5 0#8)

/-- "Reset" of 95_test_vectors.md, with the transport's answers to come. -/
def fresh (answers : List Answer) : State := { State.resetWith addrDefault sampleParams with answers := answers }

def someError : TransportError := ⟨7⟩

def fullImage : Image := ⟨0xFF#8, 0xFF#8, 0xFF#8, 0xFF#8, 0xFF#8, 0xFF#8, 0xFF#8, 0xFF#8⟩

/-- A view of the next state, where there is one. -/
def seen {α : Type} (f : State → α) : Host.Outcome State Fault Refusal → Option α
  | .next s => some (f s)
  | .fault _ => none
  | .refused _ => none

/-- One step with a table word placed where the step takes its instruction. -/
def stepOn (s : State) (nbits w : Nat) : Host.Outcome State Fault Refusal := step (s.withFetchWord nbits w)

/-! WellFormed -/

theorem test_ill_formed_brightness_frame : Instr.wf (.brightness 0x80#8) = false := by decide
theorem test_well_formed_brightness_frame : Instr.wf (.brightness 0x7F#8) = true := by decide
theorem test_decoder_refuses_ill_formed_brightness_frame :
    decodeFrame [0x19#8, 0x80#8] = .reject .malformedFrame := by decide
theorem test_sample_params_wf : sampleParams.wf = true := by decide
theorem test_params_wf_wants_ordered_range : { sampleParams with glyphLast := 0x1F }.wf = false := by decide
theorem test_params_wf_wants_one_glyph_a_code : { sampleParams with glyphs := [] }.wf = false := by decide
theorem test_params_wf_wants_char_width_columns : { sampleParams with charWidth := 6 }.wf = false := by decide

/-! Decoding: words written out bit by bit from R83 to R89 and R92 -/

theorem test_decode_init : decodeTableWord 16 0b0001000000000000 = some .init := by decide
theorem test_decode_set_brightness :
    decodeTableWord 16 0b0010000111001000 = some (.setBrightness 200#8 true) := by decide
theorem test_decode_set_pixel : decodeTableWord 16 0b0011000110010110 = some (.setPixel 9#4 6#3 true) := by decide
theorem test_decode_set_character :
    decodeTableWord 16 0b0100001101000001 = some (.setCharacter 3#4 0x41#8) := by decide
theorem test_decode_set_decimal : decodeTableWord 16 0b0101000000000010 = some (.setDecimal true false) := by decide
theorem test_decode_clear : decodeTableWord 16 0b0110000000000000 = some .clear := by decide
theorem test_decode_show : decodeTableWord 16 0b0111000000000000 = some .commit := by decide
theorem test_decode_left_image :
    decodeTableWord 72 0x0E7E1111117E000040 =
      some (.leftImage ⟨0x7E#8, 0x11#8, 0x11#8, 0x11#8, 0x7E#8, 0#8, 0#8, 0x40#8⟩) := by decide
theorem test_decode_right_image :
    decodeTableWord 72 0x010E1111111F119100 =
      some (.rightImage ⟨0x0E#8, 0x11#8, 0x11#8, 0x11#8, 0x1F#8, 0x11#8, 0x91#8, 0#8⟩) := by decide
theorem test_decode_mode : decodeTableWord 16 0b0000000000011000 = some .mode := by decide
theorem test_decode_options : decodeTableWord 16 0b0000110100001110 = some .options := by decide
theorem test_decode_brightness : decodeTableWord 16 0b0001100101111111 = some (.brightness 0x7F#8) := by decide
theorem test_decode_update : decodeTableWord 16 0b0000110000000001 = some .update := by decide

/-- The reserved neighbours of 95_test_vectors.md part 2.8. -/
theorem test_reserved_words :
    ([0x0000#16, 0x0FFF#16, 0x8000#16, 0xFFFF#16].map decodeCommand = List.replicate 4 (.reject .reservedOpcode)) ∧
    ([0x1001#16, 0x2200#16, 0x3108#16, 0x5004#16, 0x6001#16, 0x7800#16].map decodeCommand =
      List.replicate 6 (.reject .reservedBits)) := by decide

/-! One step each; the expected results are those of 95_test_vectors.md -/

/-- 2.6, first row. -/
theorem test_init_ok :
    seen (fun s => (s.brt, s.phase, s.buslog, s.responses)) (stepOn (fresh [.ok]) 16 0x1000) =
      some (0x40#8, .init, [⟨0x61#8, [0x19#8, 0x40#8], .ok⟩], [.ok]) := by decide

/-- 2.6, third row: the images and PHASE survive. -/
theorem test_init_failed :
    seen (fun s => (s.brt, s.left.d1, s.right.d2, s.phase))
      (stepOn { fresh [.err someError] with brt := 0x7F#8, left := { zeroImage with d1 := 0x55#8 },
                                            right := { zeroImage with d2 := 0x0A#8 }, phase := .dirty } 16 0x1000) =
      some (0x40#8, 0x55#8, 0x0A#8, .dirty) := by decide

/-- 2.5, level 128 with update. -/
theorem test_set_brightness_clamps_and_sends :
    seen (fun s => (s.brt, s.phase, s.buslog)) (stepOn (fresh [.ok]) 16 0x2180) =
      some (0x7F#8, .uninit, [⟨0x61#8, [0x19#8, 0x7F#8], .ok⟩]) := by decide

/-- 2.5, level 126 stays; no write without update. -/
theorem test_set_brightness_without_update :
    seen (fun s => (s.brt, s.buslog, s.responses)) (stepOn (fresh []) 16 0x207E) =
      some (0x7E#8, [], [.ok]) := by decide

/-- 2.1, the last right pixel. -/
theorem test_set_pixel_right_half :
    seen (fun s => (s.right.d6, s.left, s.phase)) (stepOn (fresh []) 16 0x3196) =
      some (0x10#8, zeroImage, .dirty) := by decide

/-- 2.1, R[4] = FF: x = 14 has a zero mask. -/
theorem test_set_pixel_zero_mask :
    seen (fun s => s.right) (stepOn { fresh [] with right := fullImage } 16 0x30E3) = some fullImage := by decide

/-- 2.4, columns 10 to 12 alias bits 5 to 7. -/
theorem test_set_character_past_the_grid :
    seen (fun s => (s.left, s.right)) (stepOn (fresh []) 16 0x4841) =
      some (zeroImage, ⟨0x70#8, 0x88#8, 0x88#8, 0x88#8, 0xF8#8, 0x88#8, 0x88#8, 0#8⟩) := by decide

/-- 2.4, overwriting across the halves. -/
theorem test_set_character_overwrites :
    seen (fun s => (s.left, s.right)) (stepOn { fresh [] with left := fullImage, right := fullImage } 16 0x4341) =
      some (⟨0xFF#8, 0xFF#8, 0xFF#8, 0xFE#8, 0x91#8, 0xFF#8, 0xFF#8, 0xFF#8⟩,
            ⟨0xFB#8, 0xFC#8, 0xFC#8, 0xFC#8, 0xFF#8, 0xFC#8, 0xFC#8, 0xFF#8⟩) := by decide

/-- 2.2, L[8] = FF and R[7] = 1F before. -/
theorem test_set_decimal :
    seen (fun s => (s.left.d7, s.right.d6, s.phase))
      (stepOn { fresh [] with left := fullImage, right := { zeroImage with d6 := 0x1F#8 } } 16 0x5001) =
      some (0xBF#8, 0x9F#8, .dirty) := by decide

/-- 2.3. -/
theorem test_clear :
    seen (fun s => (s.brt, s.left, s.right, s.phase, s.buslog))
      (stepOn { fresh [] with brt := 0x7F#8, left := fullImage, right := fullImage, phase := .init } 16 0x6000) =
      some (0x7F#8, zeroImage, zeroImage, .dirty, []) := by decide

/-- 2.7, from Reset, all Ok. -/
theorem test_show_ok :
    seen (fun s => (s.buslog.map BusEntry.payload, s.phase, s.responses))
      (stepOn (fresh [.ok, .ok, .ok, .ok, .ok, .ok]) 16 0x7000) =
      some ([[0x0E#8, 0#8, 0#8, 0#8, 0#8, 0#8, 0#8, 0#8, 0#8], [0x01#8, 0#8, 0#8, 0#8, 0#8, 0#8, 0#8, 0#8, 0#8],
             [0x00#8, 0x18#8], [0x0D#8, 0x0E#8], [0x19#8, 0x00#8], [0x0C#8, 0x01#8]], .init, [.ok]) := by decide

/-- S7: the second write fails. -/
theorem test_show_fails_at_the_second_write :
    seen (fun s => (s.buslog.map BusEntry.result, s.phase, s.responses, s.answers))
      (stepOn (fresh [.ok, .err someError, .ok]) 16 0x7000) =
      some ([.ok, .err someError], .dirty, [.err someError], [.ok]) := by decide

/-- P4 step 3: a reserved word. -/
theorem test_reserved_word_changes_nothing :
    seen id (stepOn (fresh [.ok]) 16 0x8000) = some { fresh [.ok] with responses := [.ill] } := by decide

/-- R145 and R32: step 1 sends the left image and SEQ goes to 2. -/
theorem test_left_image :
    seen (fun s => (s.buslog, s.seq, s.responses)) (stepOn (fresh [.ok]) 72 0x0E7E1111117E000040) =
      some ([⟨0x61#8, [0x0E#8, 0x7E#8, 0x11#8, 0x11#8, 0x11#8, 0x7E#8, 0#8, 0#8, 0x40#8], .ok⟩], 2, []) := by decide

/-- R146 and R151: step 2 fails. -/
theorem test_right_image_failed :
    seen (fun s => (s.buslog.length, s.seq, s.phase, s.responses)) (stepOn (fresh [.err someError]) 72 0x010E1111111F119100) =
      some (1, 0, .dirty, [.err someError]) := by decide

/-- R147. -/
theorem test_mode :
    seen (fun s => (s.buslog, s.seq)) (stepOn (fresh [.ok]) 16 0x0018) =
      some ([⟨0x61#8, [0x00#8, 0x18#8], .ok⟩], 4) := by decide

/-- R148. -/
theorem test_options :
    seen (fun s => (s.buslog, s.seq)) (stepOn (fresh [.ok]) 16 0x0D0E) =
      some ([⟨0x61#8, [0x0D#8, 0x0E#8], .ok⟩], 5) := by decide

/-- R149. -/
theorem test_brightness :
    seen (fun s => (s.buslog, s.seq)) (stepOn (fresh [.ok]) 16 0x197F) =
      some ([⟨0x61#8, [0x19#8, 0x7F#8], .ok⟩], 6) := by decide

/-- R150. -/
theorem test_update :
    seen (fun s => (s.buslog, s.seq, s.phase, s.responses)) (stepOn (fresh [.ok]) 16 0x0C01) =
      some ([⟨0x61#8, [0x0C#8, 0x01#8], .ok⟩], 0, .init, [.ok]) := by decide

/-! Witnesses: the hypotheses of the obligations can be met -/

theorem witness_DecodeInvertsEncode : Instr.wf (.setPixel 15#4 7#3 true) = true := by decide
theorem witness_EncodeInvertsDecode : decode (.frame [0x19#8, 0x00#8]) = .instr (.brightness 0#8) := by decide
theorem witness_TwoByteFramesAreReservedCommandWords :
    Instr.wf (.brightness 0x7F#8) = true ∧ encode (.brightness 0x7F#8) = .frame [0x19#8, 0x7F#8] := by decide
theorem witness_FirstByteTellsFrameAndLength_images :
    decodeFrame (0x0E#8 :: List.replicate 8 0#8) = .instr (.leftImage zeroImage) ∧
    decodeFrame (0x01#8 :: List.replicate 8 0#8) = .instr (.rightImage zeroImage) := by decide
theorem witness_FirstByteTellsFrameAndLength_commands :
    decodeFrame (0x00#8 :: [0x18#8]) = .instr .mode ∧ decodeFrame (0x0D#8 :: [0x0E#8]) = .instr .options ∧
    decodeFrame (0x19#8 :: [0x7F#8]) = .instr (.brightness 0x7F#8) ∧
    decodeFrame (0x0C#8 :: [0x01#8]) = .instr .update := by decide
theorem witness_StepRunsPresentedCommand :
    State.Idle { fresh [] with commands := [0x6000#16] } ∧ decodeCommand 0x6000#16 = .instr .clear := by decide
theorem witness_StepRunsSequencerFrame_first :
    ({ fresh [] with seq := 1 }).seq.val = 0 + 1 ∧
    (commitFrames { fresh [] with seq := 1 })[0]? = some (0x0E#8 :: List.replicate 8 0#8) ∧
    decodeFrame (0x0E#8 :: List.replicate 8 0#8) = .instr (.leftImage zeroImage) := by decide
theorem witness_StepRunsSequencerFrame_last :
    ({ fresh [] with seq := 6 }).seq.val = 5 + 1 ∧
    (commitFrames { fresh [] with seq := 6 })[5]? = some [0x0C#8, 0x01#8] ∧
    decodeFrame [0x0C#8, 0x01#8] = .instr .update := by decide
theorem witness_ReservedWordAnswersIllAndChangesNothing :
    State.Idle { fresh [] with commands := [0x0000#16] } ∧
    decodeCommand 0x0000#16 = .reject .reservedOpcode := by decide
theorem witness_IdleStepHoldsState : State.Idle (fresh []) ∧ (fresh []).commands = [] := by decide
theorem witness_PlacedTableWordIsRunByTheNextStep :
    decodeTableWord 16 0xFFFF = none ∧ decodeTableWord 16 0x4FFF = some (.setCharacter 15#4 0xFF#8) ∧
    isHostOperation (.setCharacter 15#4 0xFF#8) = true := by decide
theorem witness_EveryStepKeepsTheInvariant :
    (fresh [.ok]).Inv ∧ ∃ t, step (fresh [.ok]) = .next t := ⟨by decide, _, rfl⟩
theorem witness_NoStepChangesAddrHeadersOrParameters :
    ∃ t, step { fresh [.ok] with commands := [0x1000#16] } = .next t := ⟨_, rfl⟩
theorem witness_SeqIsZeroBetweenOperations :
    State.Idle { fresh [.ok] with commands := [0x7000#16] } ∧
    ∃ t, step { fresh [.ok] with commands := [0x7000#16] } = .next t := ⟨rfl, _, rfl⟩
theorem witness_BuslogGrowsByAtMostSixEntriesAStep :
    ∃ t, step { fresh (List.replicate 6 .ok) with commands := [0x7000#16] } = .next t ∧ t.buslog.length = 6 :=
  ⟨_, rfl, by decide⟩
theorem witness_EachCommandWordGetsOneResponse :
    State.Idle { fresh [] with commands := [0x0000#16] } ∧
    ∃ t, step { fresh [] with commands := [0x0000#16] } = .next t := ⟨rfl, _, rfl⟩
theorem witness_OnlySetBrightnessAndInitWriteBrt :
    (∃ t, exec .commit (fresh []) = .next t) ∧ (∀ level update, Instr.commit ≠ .setBrightness level update) ∧
    Instr.commit ≠ .init := ⟨⟨_, rfl⟩, by simp, by simp⟩
theorem witness_OnlyDrawingAndSuccessfulInitWriteImages :
    (∃ t, exec .init (fresh [.err someError]) = .next t) ∧ isDrawing .init = false ∧
    answerAt (fresh [.err someError]) 0 = .err someError := ⟨⟨_, rfl⟩, rfl, rfl⟩
theorem witness_InMemoryOperationsAlwaysAnswerOk : isDrawing (.setPixel 15#4 7#3 true) = true := by decide
theorem witness_NoResultDependsOnPhase : ∃ t, exec .commit (fresh []) = .next t := ⟨_, rfl⟩
theorem witness_NoResultDependsOnBuslog : ∃ t, exec .init (fresh []) = .next t := ⟨_, rfl⟩
/-- The cells of SetPixelWritesExactlyItsCell where its ranges meet: x = 4 and 5, x = 12 and 13, y = 7. -/
theorem witness_SetPixelWritesExactlyItsCell :
    pixelCell 4 7 = (.left, 5, 7) ∧ pixelCell 5 7 = (.right, 8, 0) ∧ pixelCell 12 6 = (.right, 7, 7) ∧
    pixelCell 13 0 = (.right, 1, 8) := by decide
theorem witness_DistinctPixelWritesCommute :
    (4#4).toNat < 10 ∧ (6#3).toNat < 7 ∧ (9#4).toNat < 10 ∧ (0#3).toNat < 7 ∧ ((4#4, 6#3) ≠ (9#4, 0#3)) := by decide
theorem witness_SetThenClearRestoresTheImages :
    (9#4).toNat < 10 ∧ (6#3).toNat < 7 ∧ pixelCell 9 6 = (.right, 7, 4) ∧
    imageBit (fresh []) .right 7 4 = false := by decide
theorem witness_UnsupportedCharacterChangesNothing_below : (0x1F#8).toNat < (fresh []).params.glyphFirst := by decide
theorem witness_UnsupportedCharacterChangesNothing_above : (fresh []).params.glyphLast < (0x7F#8).toNat := by decide
theorem witness_SupportedCharacterIsDrawnCellByCell :
    (fresh []).params.glyphFirst ≤ (0x20#8).toNat ∧ (0x7E#8).toNat ≤ (fresh []).params.glyphLast ∧
    (fresh []).params.glyphFirst ≤ (0x41#8).toNat ∧ (0x41#8).toNat ≤ (fresh []).params.glyphLast := by decide
/-- Its first clause at the last column that lands (x + cx = 12), and its second at a bit no cell of that glyph is. -/
theorem witness_SupportedCharacterIsDrawnCellByCell_clauses :
    (4 < (fresh []).params.charWidth ∧ (Half.right, 7, 7) = pixelCell (8 + 4) 6) ∧
    (∀ cx, cx < 5 → ∀ cy, cy < 7 → (Half.right, 8, 7) ≠ pixelCell (8 + cx) cy) := by decide
theorem witness_GlyphPixelOrderDoesNotMatter :
    glyphLookup (fresh []).params (0x41#8).toNat = some [0x7E#8, 0x11#8, 0x11#8, 0x11#8, 0x7E#8] ∧
    (glyphPoints 5).reverse.Perm (glyphPoints 5) := ⟨by decide, List.reverse_perm _⟩
theorem witness_SetBrightnessWithUpdateStoresAndSends_ok :
    (0x7F#8 : Byte) = BitVec.ofNat 8 (min (255#8).toNat 127) ∧ answerAt (fresh [.ok]) 0 = .ok := by decide
theorem witness_SetBrightnessWithUpdateStoresAndSends_err :
    (0x00#8 : Byte) = BitVec.ofNat 8 (min (0#8).toNat 127) ∧
    answerAt (fresh [.err someError]) 0 = .err someError := by decide
theorem witness_InitSendsDefaultBrightnessThenClears :
    (0x40#8 : Byte) = BitVec.ofNat 8 (fresh [.ok]).params.defaultBrightness.val ∧ answerAt (fresh [.ok]) 0 = .ok := by
  decide
theorem witness_FailedInitStoresBrightnessOnly :
    (0x40#8 : Byte) = BitVec.ofNat 8 (fresh [.err someError]).params.defaultBrightness.val ∧
    answerAt (fresh [.err someError]) 0 = .err someError := by decide
theorem witness_SuccessfulShowSendsSixFramesInOrder :
    ∀ k, k < 6 → answerAt (fresh (List.replicate 6 .ok)) k = .ok := by decide
theorem witness_FailedShowStopsAtTheFirstFailure_first :
    (commitFrames (fresh [.err someError]))[0]? = some (0x0E#8 :: List.replicate 8 0#8) ∧
    answerAt (fresh [.err someError]) 0 = .err someError := by decide
theorem witness_FailedShowStopsAtTheFirstFailure_last :
    (commitFrames (fresh (List.replicate 5 .ok ++ [.err someError])))[5]? = some [0x0C#8, 0x01#8] ∧
    (∀ j, j < 5 → answerAt (fresh (List.replicate 5 .ok ++ [.err someError])) j = .ok) ∧
    answerAt (fresh (List.replicate 5 .ok ++ [.err someError])) 5 = .err someError := by decide
theorem witness_FrameStepSendsItsFrameAndAdvancesSeq : answerAt (fresh [.ok]) 0 = .ok := by decide
theorem witness_UpdateFrameEndsTheCommit : answerAt { fresh [.ok] with seq := 6 } 0 = .ok := by decide
theorem witness_FailedFrameAbortsTheCommit :
    encode .update = .frame [0x0C#8, 0x01#8] ∧ answerAt (fresh [.err someError]) 0 = .err someError := by decide

end Sys2Proof.Tests
end

section
/-! SUPPORT. What every step does to the block's outputs: the bus writes and the responses it adds, and the fields that no
operation writes. From it, the statements of 00_scope.md. -/

namespace Sys2Proof.Machine

/-- From `s` to `t` the block made at most `writes` bus writes, all to ADDR, and gave exactly `responses` responses; ADDR,
the parameters and the words waiting on the host port are as they were. -/
structure Emits (writes responses : Nat) (s t : State) : Prop where
  addr : t.addr = s.addr
  params : t.params = s.params
  commands : t.commands = s.commands
  buslog : ∃ new, t.buslog = s.buslog ++ new ∧ new.length ≤ writes ∧ ∀ e ∈ new, e.addr = s.addr
  responses : ∃ new, t.responses = s.responses ++ new ∧ new.length = responses

/-! How `Emits` composes, and the updates the operations are made of -/

theorem Emits.trans {m n j k : Nat} {s t u : State} (hst : Emits m j s t) (htu : Emits n k t u) :
    Emits (m + n) (j + k) s u where
  addr := htu.addr.trans hst.addr
  params := htu.params.trans hst.params
  commands := htu.commands.trans hst.commands
  buslog := by
    obtain ⟨new, hnew, hlen, hto⟩ := hst.buslog
    obtain ⟨new', hnew', hlen', hto'⟩ := htu.buslog
    refine ⟨new ++ new', by rw [hnew', hnew, List.append_assoc], by simp; omega, fun e he => ?_⟩
    rcases List.mem_append.1 he with he | he
    · exact hto e he
    · exact (hto' e he).trans hst.addr
  responses := by
    obtain ⟨new, hnew, hlen⟩ := hst.responses
    obtain ⟨new', hnew', hlen'⟩ := htu.responses
    exact ⟨new ++ new', by rw [hnew', hnew, List.append_assoc], by simp [hlen, hlen']⟩

theorem Emits.mono {m n k : Nat} {s t : State} (h : Emits m k s t) (hle : m ≤ n) : Emits n k s t :=
  let ⟨new, hnew, hlen, hto⟩ := h.buslog
  { h with buslog := ⟨new, hnew, hlen.trans hle, hto⟩ }

/-- Updates of BRT, the images, PHASE and SEQ are not seen outside the block. -/
theorem emits_internal (s : State) (brt : Byte) (left right : Image) (phase : Phase) (seq : Fin 7) :
    Emits 0 0 s { s with brt := brt, left := left, right := right, phase := phase, seq := seq } :=
  ⟨rfl, rfl, rfl, ⟨[], by simp⟩, ⟨[], by simp⟩⟩

theorem emits_respond (r : Response) (s : State) : Emits 0 1 s (respond r s) :=
  ⟨rfl, rfl, rfl, ⟨[], by simp⟩, ⟨[r], by simp⟩⟩

theorem emits_busWrite (p : List Byte) (s : State) : Emits 1 0 s (busWrite p s) :=
  ⟨by simp, by simp, by simp, ⟨[⟨s.addr, p, nextAnswer s⟩], by simp⟩, ⟨[], by simp⟩⟩

theorem emits_foldl {α : Type} {f : State → α → State} (hf : ∀ s a, Emits 0 0 s (f s a)) (l : List α) (s : State) :
    Emits 0 0 s (l.foldl f s) := by
  induction l generalizing s with
  | nil => exact emits_internal s ..
  | cons a l ih => exact (hf s a).trans (ih (f s a))

/-! The shared operations -/

theorem emits_writeBit (s : State) (h : Half) (i n : Nat) (on : Bool) : Emits 0 0 s (writeBit s h i n on) := by
  cases h with
  | left => exact emits_internal s ..
  | right => exact emits_internal s ..

theorem emits_drawGlyph (x charWidth : Nat) (data : List Byte) (s : State) :
    Emits 0 0 s (drawGlyph x charWidth data s) :=
  emits_foldl (fun s _ => emits_writeBit s ..) _ s

/-- A drawing operation ends by marking the mutation and answering OK. -/
theorem emits_drawn {s t : State} (h : Emits 0 0 s t) : Emits 0 1 s (respond .ok (markMutated t)) :=
  (h.trans (emits_internal t ..)).trans (emits_respond .ok _)

theorem emits_sendCmd (cmd data : Byte) (s : State) {continueWith : State → State}
    (hk : ∀ u, Emits 0 1 u (continueWith u)) : Emits 1 1 s (sendCmd cmd data s continueWith) := by
  rcases sendCmd_cases cmd data s continueWith with ⟨-, h⟩ | ⟨e, -, h⟩ <;> rw [h]
  · exact (emits_busWrite _ s).trans (hk _)
  · exact (emits_busWrite _ s).trans (emits_respond (.err e) _)

theorem emits_endShow (s : State) : Emits 0 1 s (endShow s) :=
  (emits_internal s ..).trans (emits_respond .ok _)

theorem emits_abortShow (e : TransportError) (s : State) : Emits 0 1 s (abortShow e s) :=
  (emits_internal s ..).trans (emits_respond (.err e) _)

/-- However far a commit gets, it answers once. -/
theorem emits_sendFrames (frames : List (List Byte)) (s : State) :
    Emits frames.length 1 s (sendFrames frames s) := by
  induction frames generalizing s with
  | nil => exact emits_endShow s
  | cons f rest ih =>
    have write := emits_busWrite f s
    rcases sendFrames_cons_cases f rest s with ⟨-, h⟩ | ⟨e, -, h⟩ <;> rw [h]
    · exact (write.trans (ih _)).mono (by simp; omega)
    · exact (write.trans (emits_abortShow e _)).mono (by simp)

/-- A sequencer step answers only where it ends SHOW. -/
theorem emits_sequencerStep (k : Fin 7) (p : List Byte) (s : State) :
    ∃ responses, Emits 1 responses s (sequencerStep k p s) := by
  have write := emits_busWrite p s
  rcases sequencerStep_cases k p s with ⟨-, -, h⟩ | ⟨-, -, h⟩ | ⟨e, -, h⟩ <;> rw [h]
  · exact ⟨1, write.trans (emits_endShow _)⟩
  · exact ⟨0, write.trans (emits_internal _ ..)⟩
  · exact ⟨1, write.trans (emits_abortShow e _)⟩

/-! The instructions -/

/-- Every host operation has a next state, makes at most the six bus writes of SHOW, and answers once (R11, R94). -/
theorem exec_hostOperation_emits (i : Instr) (s : State) (hi : isHostOperation i = true) :
    ∃ t, exec i s = .next t ∧ Emits 6 1 s t := by
  cases i with
  | init =>
    have cleared (u : State) : Emits 0 1 u (respond .ok (markInitialised (zeroImages u))) :=
      (emits_internal u ..).trans (emits_respond .ok _)
    exact ⟨_, rfl, ((emits_internal s ..).trans (emits_sendCmd _ _ _ cleared)).mono (by decide)⟩
  | setBrightness level update =>
    have stored : Emits 0 0 s (storeBrightness level.toNat s) := emits_internal s ..
    cases update with
    | false => exact ⟨_, rfl, (stored.trans (emits_respond .ok _)).mono (by decide)⟩
    | true => exact ⟨_, rfl, (stored.trans (emits_sendCmd _ _ _ (emits_respond .ok))).mono (by decide)⟩
  | setPixel x y on => exact ⟨_, rfl, (emits_drawn (emits_writeBit s ..)).mono (by decide)⟩
  | setCharacter x c =>
    simp only [exec, execSetCharacter]
    cases glyphLookup s.params c.toNat with
    | none => exact ⟨_, rfl, (emits_respond .ok s).mono (by decide)⟩
    | some data => exact ⟨_, rfl, (emits_drawn (emits_drawGlyph _ _ data s)).mono (by decide)⟩
  | setDecimal left right =>
    exact ⟨_, rfl, (emits_drawn ((emits_writeBit s ..).trans (emits_writeBit _ ..))).mono (by decide)⟩
  | clear => exact ⟨_, rfl, (emits_drawn (t := zeroImages s) (emits_internal s ..)).mono (by decide)⟩
  | commit => exact ⟨_, rfl, emits_sendFrames (showFrames s) s⟩
  | leftImage | rightImage | mode | options | brightness | update => exact nomatch hi

/-- A bus frame is one step of the sequencer (R145 to R150). -/
theorem exec_frame_eq_sequencerStep (i : Instr) (s : State) (hi : isHostOperation i = false) :
    ∃ k p, exec i s = .next (sequencerStep k p s) := by
  cases i with
  | leftImage | rightImage | mode | options | brightness | update => exact ⟨_, _, rfl⟩
  | init | setBrightness | setPixel | setCharacter | setDecimal | clear | commit => exact nomatch hi

theorem exec_emits (i : Instr) (s : State) : ∃ responses t, exec i s = .next t ∧ Emits 6 responses s t := by
  cases hi : isHostOperation i with
  | true => exact ⟨1, exec_hostOperation_emits i s hi⟩
  | false =>
    obtain ⟨k, p, h⟩ := exec_frame_eq_sequencerStep i s hi
    obtain ⟨responses, emits⟩ := emits_sequencerStep k p s
    exact ⟨responses, _, h, emits.mono (by decide)⟩

/-! The command port spells host operations only -/

theorem isHostOperation_of_whenReservedZero {w mask : Word} {i j : Instr} (hi : isHostOperation i = true)
    (h : whenReservedZero w mask i = .instr j) : isHostOperation j = true :=
  ((whenReservedZero_eq_instr w mask i j).1 h).2 ▸ hi

/-- The seven opcodes in order; only SET_CHARACTER's format has no reserved bits to check (R83 to R89). -/
theorem isHostOperation_of_decodeCommand {w : Word} {i : Instr} (h : decodeCommand w = .instr i) :
    isHostOperation i = true := by
  unfold decodeCommand at h
  split_ifs at h
  · exact isHostOperation_of_whenReservedZero rfl h
  · exact isHostOperation_of_whenReservedZero rfl h
  · exact isHostOperation_of_whenReservedZero rfl h
  · cases h; rfl
  · exact isHostOperation_of_whenReservedZero rfl h
  · exact isHostOperation_of_whenReservedZero rfl h
  · exact isHostOperation_of_whenReservedZero rfl h

/-! The step -/

/-- A step has a next state; there it has written and answered what its instruction does, from the state with the command
word, if it took one, taken. -/
theorem step_emits (s : State) :
    ∃ responses u t, (u = s ∨ u = takeCommand s) ∧ step s = .next t ∧ Emits 6 responses u t := by
  rcases step_cases s with ⟨i, -, h⟩ | ⟨-, -, h⟩ | ⟨w, rest, i, -, -, -, h⟩ | ⟨w, rest, r, -, -, -, h⟩ <;> rw [h]
  · obtain ⟨responses, t, ht, emits⟩ := exec_emits i s
    exact ⟨responses, s, t, .inl rfl, ht, emits⟩
  · exact ⟨0, s, s, .inl rfl, rfl, (emits_internal s ..).mono (by decide)⟩
  · obtain ⟨responses, t, ht, emits⟩ := exec_emits i (takeCommand s)
    exact ⟨responses, _, t, .inr rfl, ht, emits⟩
  · exact ⟨1, _, _, .inr rfl, rfl, (emits_respond .ill _).mono (by decide)⟩

/-! The statements of the family -/

/-- Settles O18: a step emits at most SHOW's six bus writes, and taking a command word leaves BUSLOG and ADDR alone. -/
theorem buslogGrowsByAtMostSixEntriesAStep : Obligations.BuslogGrowsByAtMostSixEntriesAStep := by
  intro s t hstep
  obtain ⟨responses, u, t', hu, ht', emits⟩ := step_emits s
  obtain rfl : t' = t := by simpa [ht'] using hstep
  rcases hu with rfl | rfl
  · exact emits.buslog
  · exact emits.buslog

/-- Settles O19: a command word is a host operation, which answers once, or it is reserved and answered ILL. -/
theorem eachCommandWordGetsOneResponse : Obligations.EachCommandWordGetsOneResponse := by
  intro s t w rest hidle hcommands hstep
  have emits : Emits 6 1 (takeCommand s) t := by
    have hseq := (sequencerInstr_eq_none s).2 hidle
    rcases step_cases s with ⟨i, hs, -⟩ | ⟨-, hs, -⟩ | ⟨w', rest', i, -, -, hdecode, h⟩ | ⟨w', rest', r, -, -, -, h⟩
    · simp [hseq] at hs
    · simp [hcommands] at hs
    · obtain ⟨t', ht', emits⟩ :=
        exec_hostOperation_emits i (takeCommand s) (isHostOperation_of_decodeCommand hdecode)
      obtain rfl : t' = t := by simpa [h, ht'] using hstep
      exact emits
    · obtain rfl : raiseIllegal (takeCommand s) = t := by simpa [h] using hstep
      exact (emits_respond .ill _).mono (by decide)
  obtain ⟨new, hnew, hlen⟩ := emits.responses
  obtain ⟨r, rfl⟩ := List.length_eq_one_iff.1 hlen
  exact ⟨by simpa [hcommands] using emits.commands, r, hnew⟩

/-- Settles O11: every instruction has a next state, and so has a step that runs none. -/
theorem everyStepAnswersANextState : Obligations.EveryStepAnswersANextState := by
  intro s
  obtain ⟨-, -, t, -, ht, -⟩ := step_emits s
  exact ⟨t, ht⟩

end Sys2Proof.Machine
end

section
/-! SUPPORT. The bus frames: which bytes they are, which frame the sequencer sends at which SEQ, and what one sequencer step
leaves in the state. From it, the statements about single frames and about the walk through a commit. -/

namespace Sys2Proof.Machine

/-! A frame and the instruction it stands for (R92) -/

/-- A frame decodes to the instruction it encodes, or, where a brightness byte has bit 7 set, to none. -/
theorem decodeFrame_of_encode {i : Instr} {p : List Byte} (h : encode i = .frame p) :
    decodeFrame p = if i.wf then .instr i else .reject .malformedFrame := by
  cases i with
  | leftImage | rightImage | mode | options | update => cases h; rfl
  | brightness level =>
    cases h
    show decodeBrightness [level] = _
    cases hbit : level.getLsbD 7 <;> simp [decodeBrightness, Instr.wf, hbit, -BitVec.getLsbD_eq_getElem]
  | init | setBrightness | setPixel | setCharacter | setDecimal | clear | commit => cases h

theorem eq_of_decodeFrame_of_encode {i j : Instr} {p : List Byte} (h : encode i = .frame p)
    (hj : decodeFrame p = .instr j) : j = i := by
  rw [decodeFrame_of_encode h] at hj
  split at hj <;> cases hj
  rfl

theorem isFrame_of_encode {i : Instr} {p : List Byte} (h : encode i = .frame p) (hi : i.wf = true) :
    isFrame p = true := by
  simp [isFrame, decodeFrame_of_encode h, hi, Decoded.instr?]

/-- A level of at most 127 has bit 7 clear, so its brightness frame is well formed (R22, R92). -/
theorem brightness_wf {level : Byte} (h : level.toNat ≤ 127) : (Instr.brightness level).wf = true := by
  have hbit : level.getLsbD 7 = false := by
    rw [← BitVec.testBit_toNat]
    exact Nat.testBit_lt_two_pow (by omega)
  simp only [Instr.wf, hbit, Bool.not_false]

/-- A frame of a commit is the encoding of a bus frame, well formed where BRT is at most 127. -/
theorem encode_of_mem_showFrames {s : State} {p : List Byte} (hp : p ∈ showFrames s) :
    ∃ i, encode i = .frame p ∧ (s.brt.toNat ≤ 127 → i.wf = true) := by
  simp only [showFrames, List.mem_cons, List.not_mem_nil, or_false] at hp
  rcases hp with rfl | rfl | rfl | rfl | rfl | rfl
  · exact ⟨.leftImage s.left, rfl, fun _ => rfl⟩
  · exact ⟨.rightImage s.right, rfl, fun _ => rfl⟩
  · exact ⟨.mode, rfl, fun _ => rfl⟩
  · exact ⟨.options, rfl, fun _ => rfl⟩
  · exact ⟨.brightness s.brt, rfl, brightness_wf⟩
  · exact ⟨.update, rfl, fun _ => rfl⟩

/-! One step of the sequencer -/

theorem sequencerStep_of_ok {k : Fin 7} {s : State} (p : List Byte) (h : answerAt s 0 = .ok) (hk : k ≠ 6) :
    sequencerStep k p s =
      { consumeAnswers s 1 with seq := k + 1, buslog := s.buslog ++ [⟨s.addr, p, .ok⟩] } := by
  simp only [sequencerStep, nextAnswer_eq, h, hk, if_false, busWrite_eq]

theorem sequencerStep_last_of_ok {s : State} (p : List Byte) (h : answerAt s 0 = .ok) :
    sequencerStep 6 p s =
      { consumeAnswers s 1 with seq := 0, phase := .init, buslog := s.buslog ++ [⟨s.addr, p, .ok⟩],
                                responses := s.responses ++ [.ok] } := by
  simp only [sequencerStep, nextAnswer_eq, h, if_true, busWrite_eq]
  rfl

theorem sequencerStep_of_err (k : Fin 7) {s : State} (p : List Byte) {e : TransportError}
    (h : answerAt s 0 = .err e) :
    sequencerStep k p s =
      { consumeAnswers s 1 with seq := 0, phase := .dirty, buslog := s.buslog ++ [⟨s.addr, p, .err e⟩],
                                responses := s.responses ++ [.err e] } := by
  simp only [sequencerStep, nextAnswer_eq, h, busWrite_eq]
  rfl

/-- A bus frame is one sequencer step with the frame's own bytes. -/
theorem exec_of_encode_frame {i : Instr} {p : List Byte} (h : encode i = .frame p) (s : State) :
    ∃ k, exec i s = .next (sequencerStep k p s) := by
  cases i with
  | leftImage | rightImage | mode | options | brightness | update => cases h; exact ⟨_, rfl⟩
  | init | setBrightness | setPixel | setCharacter | setDecimal | clear | commit => cases h

/-- At SEQ = k + 1 the sequencer's instruction is the one that frame k of a commit encodes, and it runs as step k + 1. -/
theorem sequencerInstr_of_seq {s : State} {k : Nat} (hseq : s.seq.val = k + 1) :
    ∃ i p, sequencerInstr s = some i ∧ encode i = .frame p ∧ (showFrames s)[k]? = some p ∧
      exec i s = .next (sequencerStep s.seq p s) := by
  obtain ⟨n, hn⟩ : ∃ n, s.seq = n := ⟨_, rfl⟩
  unfold sequencerInstr
  rw [hn] at hseq ⊢
  fin_cases n
  · simp at hseq
  all_goals
    obtain rfl := Nat.succ.inj hseq
    exact ⟨_, _, rfl, rfl, rfl, rfl⟩

theorem step_of_sequencerInstr {s : State} {i : Instr} (h : sequencerInstr s = some i) : step s = exec i s := by
  simp only [step, h]

/-! Single frames -/

/-- Settles O8: the sequencer's instruction encodes to that frame, and a frame decodes to no other instruction. -/
theorem stepRunsSequencerFrame : Obligations.StepRunsSequencerFrame := by
  intro s k bytes i hseq hbytes hdecode
  obtain ⟨j, p, hj, hencode, hp, -⟩ := sequencerInstr_of_seq hseq
  obtain rfl : p = bytes := Option.some.inj (hp.symm.trans hbytes)
  obtain rfl := eq_of_decodeFrame_of_encode hencode hdecode
  exact step_of_sequencerInstr hj

/-- Settles O42: each of the five is a sequencer step before the last. -/
theorem frameStepSendsItsFrameAndAdvancesSeq : Obligations.FrameStepSendsItsFrameAndAdvancesSeq := by
  intro s hok
  have sent (k : Fin 7) (p : List Byte) (hk : k ≠ 6) :=
    congrArg (Host.Outcome.next (φ := Fault) (ρ := Refusal)) (sequencerStep_of_ok p hok hk)
  exact ⟨fun d => sent 1 _ (by decide), fun d => sent 2 _ (by decide), sent 3 _ (by decide), sent 4 _ (by decide),
    fun level => sent 5 _ (by decide)⟩

/-- Settles O43: UPDATE is the sequencer's last step. -/
theorem updateFrameEndsTheCommit : Obligations.UpdateFrameEndsTheCommit := fun _ hok =>
  congrArg Host.Outcome.next (sequencerStep_last_of_ok _ hok)

/-- Settles O44: a frame is a sequencer step, which aborts on Err(e) whatever its number. -/
theorem failedFrameAbortsTheCommit : Obligations.FailedFrameAbortsTheCommit := by
  intro i bytes s e hencode herr
  obtain ⟨k, h⟩ := exec_of_encode_frame hencode s
  rw [h, sequencerStep_of_err k bytes herr]

/-! The walk through a commit -/

/-- A bus write neither reads nor writes SEQ. -/
theorem busWrite_seq_irrelevant (p : List Byte) (s : State) (k : Fin 7) :
    busWrite p { s with seq := k } = { busWrite p s with seq := k } := by
  simp only [busWrite_eq]; rfl

/-- A commit ends with SEQ 0, whatever SEQ was. -/
theorem sendFrames_seq_irrelevant (frames : List (List Byte)) (s : State) (k : Fin 7) :
    sendFrames frames { s with seq := k } = sendFrames frames s := by
  induction frames generalizing s with
  | nil => rfl
  | cons f rest ih =>
    have hnext : nextAnswer { s with seq := k } = nextAnswer s := rfl
    simp only [sendFrames, hnext, busWrite_seq_irrelevant, ih]
    rfl

/-- The frames of a commit are formed from the images and BRT, which a bus write leaves alone. -/
theorem showFrames_busWrite (p : List Byte) (s : State) (k : Fin 7) :
    showFrames { busWrite p s with seq := k } = showFrames s := by
  simp [showFrames_eq, commitFrames]

/-- From SEQ = j + 1 the machine walks through the frames of the commit from frame j on, one a step, and ends where sending
them in one go ends. -/
theorem run_sendFrames (frames : List (List Byte)) (j : Nat) (s : State) (hseq : s.seq.val = j + 1)
    (hframes : (showFrames s).drop j = frames) :
    ∃ k t, sendFrames frames s = t ∧ 1 ≤ k ∧ k ≤ frames.length ∧ Sys2Proof.core.run k s = .next t ∧
      t.seq = 0 ∧ t.buslog.length = s.buslog.length + k := by
  induction frames generalizing j s with
  | nil =>
    have hlen : 6 ≤ j := by simpa [showFrames] using List.drop_eq_nil_iff.1 hframes
    omega
  | cons f rest ih =>
    have hlen : 6 - j = rest.length + 1 := by simpa [showFrames] using congrArg List.length hframes
    have hrest : (showFrames s).drop (j + 1) = rest := by rw [← List.tail_drop, hframes, List.tail_cons]
    obtain ⟨i, p, hi, -, hp, hexec⟩ := sequencerInstr_of_seq hseq
    have hf : (showFrames s)[j]? = some f := by rw [← List.head?_drop, hframes, List.head?_cons]
    obtain rfl : p = f := Option.some.inj (hp.symm.trans hf)
    have hstep : step s = .next (sequencerStep s.seq p s) := (step_of_sequencerInstr hi).trans hexec
    rcases sequencerStep_cases s.seq p s with ⟨hok, hk, h⟩ | ⟨hok, hk, h⟩ | ⟨e, herr, h⟩
    · have hj : j + 1 = 6 := by rw [← hseq, hk]; rfl
      obtain rfl : rest = [] := List.eq_nil_of_length_eq_zero (by omega)
      have hsend : sendFrames [p] s = endShow (busWrite p s) := by simp only [sendFrames, nextAnswer_eq, hok]
      exact ⟨1, _, hsend, le_rfl, by simp, by rw [core_run_succ 0 hstep, h, core_run_zero], rfl, by simp [endShow]⟩
    · have hsend : sendFrames (p :: rest) s = sendFrames rest { busWrite p s with seq := s.seq + 1 } := by
        simp only [sendFrames, nextAnswer_eq, hok, sendFrames_seq_irrelevant]
      have hseq' : (s.seq + 1).val = j + 2 := by
        rw [Fin.val_add_one_of_lt (Fin.lt_last_iff_ne_last.2 hk), hseq]
      obtain ⟨k, t, ht, -, hle, hrun, hzero, hlog⟩ := ih (j + 1) _ hseq' ((showFrames_busWrite p s _).symm ▸ hrest)
      exact ⟨k + 1, t, hsend.trans ht, by omega, by simpa using hle,
        by rw [core_run_succ k hstep, h, hrun], hzero, by rw [hlog]; simp; omega⟩
    · have hsend : sendFrames (p :: rest) s = abortShow e (busWrite p s) := by
        simp only [sendFrames, nextAnswer_eq, herr]
      exact ⟨1, _, hsend, le_rfl, by simp, by rw [core_run_succ 0 hstep, h, core_run_zero], rfl, by simp [abortShow]⟩

/-- Settles O41: the walk from SEQ = 1 sends all six frames, and SHOW does not read SEQ. -/
theorem showIsTheSequencersWalkFrameByFrame : Obligations.ShowIsTheSequencersWalkFrameByFrame := by
  intro s
  obtain ⟨k, t, ht, hpos, hle, hrun, hzero, hlog⟩ := run_sendFrames _ 0 { s with seq := 1 } rfl rfl
  have hshow : exec .commit s = .next t := by rw [← ht, sendFrames_seq_irrelevant]; rfl
  exact ⟨k, t, hpos, hle, hrun, hshow, hzero, hlog⟩

end Sys2Proof.Machine
end

section
/-! SUPPORT. Which updates an instruction makes to the block's state, said once for all thirteen; from it, what an instruction
keeps, and the invariant of R37. -/

namespace Sys2Proof.Machine

open Relation (ReflTransGen)

/-- One update that running `i` from `s` may make, from the state reached so far to the next: BRT only in SET_BRIGHTNESS and
INIT, clamped (R22); the images only in a drawing operation and in an INIT whose write answers Ok (R38); SEQ in a host
operation only back to 0 (R32); and every bus write is a frame of R92, given a well-formed instruction and BRT. -/
inductive Updates (i : Instr) (s : State) : State → State → Prop
  | brt (u : State) (b : Byte) (writer : i = .init ∨ ∃ level update, i = .setBrightness level update)
      (clamped : b.toNat ≤ 127) : Updates i s u { u with brt := b }
  | images (u : State) (l r : Image) (writer : isDrawing i = true ∨ i = .init ∧ answerAt s 0 = .ok) :
      Updates i s u { u with left := l, right := r }
  | phase (u : State) (p : Phase) : Updates i s u { u with phase := p }
  | seq (u : State) (k : Fin 7) (ends : isHostOperation i = true → k = 0) : Updates i s u { u with seq := k }
  | write (u : State) (p : List Byte) (frame : i.wf = true → s.brt.toNat ≤ 127 → isFrame p = true) :
      Updates i s u (busWrite p u)
  | respond (u : State) (r : Response) : Updates i s u (respond r u)

/-! The shared operations, run as part of an instruction -/

section
variable {i : Instr} {s u : State}

theorem updates_writeBit (hi : isDrawing i = true) (h : Half) (j n : Nat) (on : Bool) :
    Updates i s u (writeBit u h j n on) := by
  cases h with
  | left => exact .images u _ u.right (.inl hi)
  | right => exact .images u u.left _ (.inl hi)

theorem updates_drawGlyph (hi : isDrawing i = true) (x charWidth : Nat) (data : List Byte) :
    ReflTransGen (Updates i s) u (drawGlyph x charWidth data u) := by
  unfold drawGlyph
  induction glyphPoints charWidth generalizing u with
  | nil => exact .refl
  | cons p points ih => exact .head (updates_writeBit hi ..) ih

/-- A drawing operation ends by marking the mutation and answering OK. -/
theorem updates_drawn {v : State} (h : ReflTransGen (Updates i s) u v) :
    ReflTransGen (Updates i s) u (respond .ok (markMutated v)) :=
  (h.tail (.phase v .dirty)).tail (.respond _ .ok)

theorem updates_sendCmd {cmd data : Byte} {k : State → State}
    (hframe : i.wf = true → s.brt.toNat ≤ 127 → isFrame (commandFrame cmd data) = true)
    (hk : ∀ v, answerAt u 0 = .ok → ReflTransGen (Updates i s) v (k v)) :
    ReflTransGen (Updates i s) u (sendCmd cmd data u k) := by
  rcases sendCmd_cases cmd data u k with ⟨hok, h⟩ | ⟨e, -, h⟩ <;> rw [h]
  · exact .head (.write u _ hframe) (hk _ hok)
  · exact .head (.write u _ hframe) (.single (.respond _ (.err e)))

theorem updates_endShow : ReflTransGen (Updates i s) u (endShow u) :=
  .head (.seq u 0 fun _ => rfl) (.head (.phase _ .init) (.single (.respond _ .ok)))

theorem updates_abortShow (e : TransportError) : ReflTransGen (Updates i s) u (abortShow e u) :=
  .head (.seq u 0 fun _ => rfl) (.head (.phase _ .dirty) (.single (.respond _ (.err e))))

theorem updates_sendFrames {frames : List (List Byte)}
    (hframes : ∀ p ∈ frames, i.wf = true → s.brt.toNat ≤ 127 → isFrame p = true) :
    ReflTransGen (Updates i s) u (sendFrames frames u) := by
  induction frames generalizing u with
  | nil => exact updates_endShow
  | cons f rest ih =>
    have write := Updates.write (i := i) (s := s) u f (hframes f (by simp))
    rcases sendFrames_cons_cases f rest u with ⟨-, h⟩ | ⟨e, -, h⟩ <;> rw [h]
    · exact .head write (ih fun p hp => hframes p (by simp [hp]))
    · exact .head write (updates_abortShow e)

theorem updates_sequencerStep (k : Fin 7) {p : List Byte} (hi : isHostOperation i = false) (hp : encode i = .frame p) :
    ReflTransGen (Updates i s) u (sequencerStep k p u) := by
  have write := Updates.write (i := i) (s := s) u p fun hwf _ => isFrame_of_encode hp hwf
  rcases sequencerStep_cases k p u with ⟨-, -, h⟩ | ⟨-, -, h⟩ | ⟨e, -, h⟩ <;> rw [h]
  · exact .head write updates_endShow
  · exact .head write (.single (.seq _ _ (by simp [hi])))
  · exact .head write (updates_abortShow e)

end

theorem isFrame_brightness {level : Byte} (h : level.toNat ≤ 127) :
    isFrame (commandFrame regBrightness level) = true :=
  isFrame_of_encode (i := .brightness level) rfl (brightness_wf h)

theorem clampLevel_le (level : Nat) : (clampLevel level).toNat ≤ 127 := by
  rw [clampLevel_toNat]; exact min_le_right ..

/-- Every instruction is made of the updates it may make. -/
theorem exec_updates (i : Instr) (s : State) : ∃ t, exec i s = .next t ∧ ReflTransGen (Updates i s) s t := by
  cases i with
  | init =>
    refine ⟨_, rfl, .head (.brt s (clampLevel _) (.inl rfl) (clampLevel_le _)) (updates_sendCmd ?_ fun v hok => ?_)⟩
    · exact fun _ _ => isFrame_brightness (clampLevel_le _)
    · exact .head (.images v _ _ (.inr ⟨rfl, hok⟩)) (.head (.phase _ .init) (.single (.respond _ .ok)))
  | setBrightness level update =>
    refine ⟨_, rfl, .head (.brt s (clampLevel level.toNat) (.inr ⟨_, _, rfl⟩) (clampLevel_le _)) ?_⟩
    cases update with
    | false => exact .single (.respond _ .ok)
    | true => exact updates_sendCmd (fun _ _ => isFrame_brightness (clampLevel_le _)) fun v _ => .single (.respond v .ok)
  | setPixel x y on => exact ⟨_, rfl, updates_drawn (.single (updates_writeBit rfl ..))⟩
  | setCharacter x c =>
    simp only [exec, execSetCharacter]
    cases glyphLookup s.params c.toNat with
    | none => exact ⟨_, rfl, .single (.respond s .ok)⟩
    | some data => exact ⟨_, rfl, updates_drawn (updates_drawGlyph rfl ..)⟩
  | setDecimal left right =>
    exact ⟨_, rfl, updates_drawn (.head (updates_writeBit rfl ..) (.single (updates_writeBit rfl ..)))⟩
  | clear => exact ⟨_, rfl, updates_drawn (.single (.images s zeroImage zeroImage (.inl rfl)))⟩
  | commit =>
    refine ⟨_, rfl, updates_sendFrames fun p hp _ hbrt => ?_⟩
    obtain ⟨i, hi, hwf⟩ := encode_of_mem_showFrames hp
    exact isFrame_of_encode hi (hwf hbrt)
  | leftImage | rightImage | mode | options | brightness | update =>
    exact ⟨_, rfl, updates_sequencerStep _ rfl rfl⟩

/-- What every update of `i` keeps, running `i` keeps. -/
theorem exec_keeps {i : Instr} {s t : State} {Q : State → Prop} (h : exec i s = .next t)
    (hQ : ∀ u v, Updates i s u v → Q u → Q v) (hs : Q s) : Q t := by
  obtain ⟨t', ht', hupdates⟩ := exec_updates i s
  obtain rfl : t' = t := by simpa [ht'] using h
  clear h ht'
  induction hupdates with
  | refl => exact hs
  | tail _ huv ih => exact hQ _ _ huv ih

/-! What the instructions leave alone -/

/-- Settles O20: the update of BRT is not theirs to make, and no other update writes BRT. -/
theorem onlySetBrightnessAndInitWriteBrt : Obligations.OnlySetBrightnessAndInitWriteBrt := by
  intro i s t hexec hset hinit
  refine exec_keeps (Q := fun u => u.brt = s.brt) hexec (fun u v huv hu => ?_) rfl
  cases huv with
  | brt _ writer =>
    rcases writer with h | ⟨level, update, h⟩
    · exact absurd h hinit
    · exact absurd h (hset level update)
  | images | phase | seq | respond => exact hu
  | write => simpa using hu

/-- Settles O21: the update of the images is not theirs to make, and no other update writes an image. -/
theorem onlyDrawingAndSuccessfulInitWriteImages : Obligations.OnlyDrawingAndSuccessfulInitWriteImages := by
  intro i s t hexec hdraws hinit
  refine exec_keeps (Q := fun u => u.left = s.left ∧ u.right = s.right) hexec (fun u v huv hu => ?_) ⟨rfl, rfl⟩
  cases huv with
  | images _ _ writer =>
    rcases writer with h | ⟨h, hok⟩
    · simp [hdraws] at h
    · obtain ⟨e, herr⟩ := hinit h
      simp [hok] at herr
  | brt | phase | seq | respond => exact hu
  | write => simpa using hu

theorem exec_hostOperation_keeps_idle {i : Instr} {s t : State} (hi : isHostOperation i = true) (hs : s.Idle)
    (h : exec i s = .next t) : t.Idle := by
  refine exec_keeps h (fun u v huv hu => ?_) hs
  cases huv with
  | seq k ends => exact ends hi
  | brt | images | phase | respond => exact hu
  | write p => exact (busWrite_seq p u).trans hu

/-- The next state of a step: an instruction's, with the command word taken or from the sequencer, or that of a step that
runs none. -/
theorem next_step_cases {s t : State} (h : step s = .next t) :
    (∃ i, sequencerInstr s = some i ∧ exec i s = .next t) ∨ t = s ∨
    (∃ w i, decodeCommand w = .instr i ∧ exec i (takeCommand s) = .next t) ∨ t = raiseIllegal (takeCommand s) := by
  rcases step_cases s with ⟨i, hi, hs⟩ | ⟨-, -, hs⟩ | ⟨w, -, i, -, -, hi, hs⟩ | ⟨w, -, r, -, -, -, hs⟩ <;> rw [hs] at h
  · exact .inl ⟨i, hi, h⟩
  · exact .inr (.inl (Host.Outcome.next.inj h).symm)
  · exact .inr (.inr (.inl ⟨w, i, hi, h⟩))
  · exact .inr (.inr (.inr (Host.Outcome.next.inj h).symm))

/-- Settles O17: an idle block runs host operations only, which move SEQ, if at all, back to 0. -/
theorem seqIsZeroBetweenOperations : Obligations.SeqIsZeroBetweenOperations := by
  intro s t hidle hstep
  rcases next_step_cases hstep with ⟨i, hi, -⟩ | rfl | ⟨w, i, hi, hexec⟩ | rfl
  · simp [(sequencerInstr_eq_none s).2 hidle] at hi
  · exact hidle
  · exact exec_hostOperation_keeps_idle (s := takeCommand s) (isHostOperation_of_decodeCommand hi) hidle hexec
  · exact hidle

/-- Settles O16: what a step emits leaves ADDR and the parameters alone, and the headers are hardwired. -/
theorem noStepChangesAddrHeadersOrParameters : Obligations.NoStepChangesAddrHeadersOrParameters := by
  intro s t hstep
  obtain ⟨responses, u, t', hu, ht', emits⟩ := step_emits s
  obtain rfl : t' = t := by simpa [ht'] using hstep
  have kept : u.addr = s.addr ∧ u.params = s.params := by rcases hu with rfl | rfl <;> exact ⟨rfl, rfl⟩
  exact ⟨emits.addr.trans kept.1, emits.params.trans kept.2, rfl, rfl⟩

/-! The invariant of R37 -/

/-- A well-formed instruction keeps the invariant: what it stores in BRT is clamped, and what it sends is a frame. -/
theorem exec_keeps_inv {i : Instr} {s t : State} (hi : i.wf = true) (hs : s.Inv) (h : exec i s = .next t) : t.Inv := by
  have hbrt : s.brt.toNat ≤ 127 := hs.1
  refine exec_keeps h (fun u v huv hu => ?_) hs
  obtain ⟨hle, hparams, hlog⟩ := hu
  cases huv with
  | brt b _ clamped => exact ⟨clamped, hparams, hlog⟩
  | images | phase | seq | respond => exact ⟨hle, hparams, hlog⟩
  | write p frame =>
    refine ⟨by simpa using hle, by simpa using hparams, fun e he => ?_⟩
    rcases List.mem_append.1 he with he | he
    · simpa using hlog e he
    · obtain rfl := List.mem_singleton.1 he
      exact ⟨by simp, frame hi hbrt⟩

theorem wf_of_isHostOperation {i : Instr} (h : isHostOperation i = true) : i.wf = true := by
  cases i with
  | brightness => exact nomatch h
  | init | setBrightness | setPixel | setCharacter | setDecimal | clear | commit | leftImage | rightImage | mode
  | options | update => rfl

/-- The sequencer forms well-formed frames only, since BRT is at most 127. -/
theorem wf_of_sequencerInstr {s : State} {i : Instr} (hbrt : s.brt.toNat ≤ 127) (h : sequencerInstr s = some i) :
    i.wf = true := by
  unfold sequencerInstr at h
  split at h <;> cases h
  case h_6 => exact brightness_wf hbrt  -- SEQ 5, the one frame whose well-formedness says something
  all_goals rfl

/-- Settles O15: the instruction a step runs is well formed, from the sequencer or from the command port. -/
theorem everyStepKeepsTheInvariant : Obligations.EveryStepKeepsTheInvariant := by
  intro s t hinv hstep
  rcases next_step_cases hstep with ⟨i, hi, hexec⟩ | rfl | ⟨w, i, hi, hexec⟩ | rfl
  · exact exec_keeps_inv (wf_of_sequencerInstr hinv.1 hi) hinv hexec
  · exact hinv
  · exact exec_keeps_inv (s := takeCommand s) (wf_of_isHostOperation (isHostOperation_of_decodeCommand hi)) hinv hexec
  · exact hinv

end Sys2Proof.Machine
end

section
/-! SUPPORT. SET_PIXEL and SET_DECIMAL, bit by bit. -/

namespace Sys2Proof.Machine

/-- Settles O25: the operation is PIX, which writes at most the one bit of its cell and leaves all but the images. -/
theorem setPixelWritesExactlyItsCell : Obligations.SetPixelWritesExactlyItsCell := by
  intro x y on s
  refine ⟨_, rfl, ?_, fun h i n _ hn => ?_⟩
  · rw [pix_frame]; rfl
  · have bit := imageBit_pix s x.toNat on h i n y.isLt
    simp only [hn, and_true] at bit
    exact bit

/-- Settles O28: two bit writes, in different halves. -/
theorem setDecimalWritesBothPointsOnly : Obligations.SetDecimalWritesBothPointsOnly := by
  intro left right s
  refine ⟨_, rfl, rfl, fun h i n _ hn => ?_⟩
  have first := imageBit_writeBit s .left h dpLeftBit left (i := dpLeftIndex) i n (by decide) (by decide)
  have second := imageBit_writeBit (writeBit s .left dpLeftIndex dpLeftBit left) .right h dpRightBit right
    (i := dpRightIndex) i n (by decide) (by decide)
  rw [first] at second
  refine second.trans ?_
  cases h <;> simp [hn, dpLeftIndex, dpLeftBit, dpRightIndex, dpRightBit]

end Sys2Proof.Machine
end

section
/-! SUPPORT. The state after reset, and the 2-bit status codes. -/

namespace Sys2Proof.Machine

theorem imageGet_zeroImage (i : Nat) : imageGet zeroImage i = 0x00#8 := by
  unfold imageGet; split <;> rfl

theorem config_params_wf : Config.params.wf = true := by
  simp [Params.wf, Config.params]

/-- Settles O13: each field of the reset state as it is written, the data bytes read through the accessor. -/
theorem resetLeavesTheSpecsValues : Obligations.ResetLeavesTheSpecsValues := by
  intro strap p
  have data (h : Half) (i : Nat) (hi : 1 ≤ i) (_ : i ≤ 8) : readByte (State.resetWith strap p) h i = 0x00#8 := by
    have hne : i ≠ 0 := by omega
    cases h <;> simp only [readByte, hne, if_false] <;> exact imageGet_zeroImage i
  exact ⟨rfl, rfl, rfl, rfl, data, rfl, rfl, rfl, rfl⟩

/-- Settles O14: BRT is 0, BUSLOG is empty, and the surroundings' parameters are as R6 asks. -/
theorem resetMeetsTheInvariant : Obligations.ResetMeetsTheInvariant :=
  ⟨Nat.zero_le _, config_params_wf, fun _ he => nomatch he⟩

/-! Status codes -/

/-- Settles O45: the codes as R30 and R94 list them. -/
theorem statusCodesAreTheSpecs : Obligations.StatusCodesAreTheSpecs := by
  have phase (p : Phase) : p.code ≠ 3#2 := by cases p <;> decide
  have response (r : Response) : r.status ≠ 3#2 := by cases r with | ok | ill => decide | err => exact (by decide : 1#2 ≠ 3#2)
  exact ⟨rfl, rfl, rfl, rfl, fun _ => rfl, rfl, phase, response⟩

end Sys2Proof.Machine
end

section
/-! SUPPORT. No operation reads PHASE or BUSLOG: two runs of one instruction from states that agree but for these two agree
but for these two at the end, and append the same entries. Both statements are cases of that one simulation. -/

namespace Sys2Proof.Machine

/-- `s'` is `s` but for PHASE and BUSLOG: their phases stand in the relation `P`, and since their logs were `log` and `log'`
both have appended the same entries. -/
def Alike (P : Phase → Phase → Prop) (log log' : List BusEntry) (s s' : State) : Prop :=
  ∃ p new, P s.phase p ∧ s.buslog = log ++ new ∧ s' = { s with phase := p, buslog := log' ++ new }

/-- An update that neither reads nor writes PHASE or BUSLOG. -/
def Ignores (f : State → State) : Prop :=
  ∀ s p log, f { s with phase := p, buslog := log } = { f s with phase := p, buslog := log }

theorem ignores_respond (r : Response) : Ignores (respond r) := fun _ _ _ => rfl

theorem ignores_storeBrightness (level : Nat) : Ignores (storeBrightness level) := fun _ _ _ => rfl

theorem ignores_zeroImages : Ignores zeroImages := fun _ _ _ => rfl

theorem ignores_setSeq (k : Fin 7) : Ignores fun s => { s with seq := k } := fun _ _ _ => rfl

theorem ignores_writeBit (h : Half) (i n : Nat) (on : Bool) : Ignores fun s => writeBit s h i n on := by
  intro s p log
  cases h <;> rfl

theorem ignores_drawGlyph (x charWidth : Nat) (data : List Byte) : Ignores (drawGlyph x charWidth data) := by
  intro s p log
  unfold drawGlyph
  induction glyphPoints charWidth generalizing s with
  | nil => rfl
  | cons q points ih =>
    have plot : Ignores fun s => plotPoint x data s q := ignores_writeBit _ _ _ _
    simp only [List.foldl_cons, plot s p log, ih]

section
variable {P : Phase → Phase → Prop} {log log' : List BusEntry} {s s' : State}

theorem Alike.params_eq (h : Alike P log log' s s') : s'.params = s.params := by
  obtain ⟨p, new, -, -, rfl⟩ := h
  rfl

theorem Alike.brt_eq (h : Alike P log log' s s') : s'.brt = s.brt := by
  obtain ⟨p, new, -, -, rfl⟩ := h
  rfl

theorem Alike.nextAnswer_eq (h : Alike P log log' s s') : nextAnswer s' = nextAnswer s := by
  obtain ⟨p, new, -, -, rfl⟩ := h
  rfl

theorem Alike.showFrames_eq (h : Alike P log log' s s') : showFrames s' = showFrames s := by
  obtain ⟨p, new, -, -, rfl⟩ := h
  rfl

theorem Alike.ignores {f : State → State} (h : Alike P log log' s s') (hf : Ignores f) :
    Alike P log log' (f s) (f s') := by
  obtain ⟨p, new, hp, hlog, rfl⟩ := h
  have self : f s = { f s with phase := s.phase, buslog := s.buslog } := hf s s.phase s.buslog
  refine ⟨p, new, ?_, ?_, hf s p _⟩
  · rw [self]; exact hp
  · rw [self]; exact hlog

theorem Alike.setPhase (h : Alike P log log' s s') {q : Phase} (hq : P q q) :
    Alike P log log' { s with phase := q } { s' with phase := q } := by
  obtain ⟨p, new, -, hlog, rfl⟩ := h
  exact ⟨q, new, hq, hlog, rfl⟩

/-- The entry written is made of ADDR, the payload and the transport's answer. -/
theorem Alike.busWrite (h : Alike P log log' s s') (payload : List Byte) :
    Alike P log log' (busWrite payload s) (busWrite payload s') := by
  obtain ⟨p, new, hp, hlog, rfl⟩ := h
  refine ⟨p, new ++ [⟨s.addr, payload, nextAnswer s⟩], by simpa using hp, by simp [hlog], ?_⟩
  simp only [busWrite_eq, Machine.nextAnswer_eq, ← List.append_assoc]
  rfl

theorem Alike.sendCmd (h : Alike P log log' s s') (cmd data : Byte) {k : State → State}
    (hk : ∀ u u', Alike P log log' u u' → Alike P log log' (k u) (k u')) :
    Alike P log log' (sendCmd cmd data s k) (sendCmd cmd data s' k) := by
  simp only [Machine.sendCmd, h.nextAnswer_eq]
  cases nextAnswer s with
  | ok => exact hk _ _ (h.busWrite _)
  | err e => exact (h.busWrite _).ignores (ignores_respond (.err e))

theorem Alike.drawn (hP : ∀ p, P p p) (h : Alike P log log' s s') :
    Alike P log log' (respond .ok (markMutated s)) (respond .ok (markMutated s')) :=
  (h.setPhase (hP .dirty)).ignores (ignores_respond .ok)

theorem Alike.endShow (hP : ∀ p, P p p) (h : Alike P log log' s s') : Alike P log log' (endShow s) (endShow s') :=
  ((h.ignores (ignores_setSeq 0)).setPhase (hP .init)).ignores (ignores_respond .ok)

theorem Alike.abortShow (hP : ∀ p, P p p) (h : Alike P log log' s s') (e : TransportError) :
    Alike P log log' (abortShow e s) (abortShow e s') :=
  ((h.ignores (ignores_setSeq 0)).setPhase (hP .dirty)).ignores (ignores_respond (.err e))

theorem Alike.sendFrames (hP : ∀ p, P p p) (frames : List (List Byte)) (h : Alike P log log' s s') :
    Alike P log log' (sendFrames frames s) (sendFrames frames s') := by
  induction frames generalizing s s' with
  | nil => exact h.endShow hP
  | cons f rest ih =>
    simp only [Machine.sendFrames, h.nextAnswer_eq]
    cases nextAnswer s with
    | ok => exact ih (h.busWrite f)
    | err e => exact (h.busWrite f).abortShow hP e

theorem Alike.sequencerStep (hP : ∀ p, P p p) (h : Alike P log log' s s') (k : Fin 7) (p : List Byte) :
    Alike P log log' (sequencerStep k p s) (sequencerStep k p s') := by
  simp only [Machine.sequencerStep, h.nextAnswer_eq]
  cases nextAnswer s with
  | ok =>
    by_cases hk : k = 6
    · simpa only [hk, if_true] using (h.busWrite p).endShow hP
    · simpa only [hk, if_false] using (h.busWrite p).ignores (ignores_setSeq (k + 1))
  | err e => exact (h.busWrite p).abortShow hP e

/-- Every instruction takes states that agree but for PHASE and BUSLOG to such states. -/
theorem exec_alike (hP : ∀ p, P p p) (i : Instr) (h : Alike P log log' s s') :
    ∃ t t', exec i s = .next t ∧ exec i s' = .next t' ∧ Alike P log log' t t' := by
  cases i with
  | init =>
    refine ⟨_, _, rfl, rfl, ?_⟩
    rw [h.params_eq]
    exact (h.ignores (ignores_storeBrightness _)).sendCmd _ _ fun u u' hu =>
      ((hu.ignores ignores_zeroImages).setPhase (hP .init)).ignores (ignores_respond .ok)
  | setBrightness level update =>
    have stored := h.ignores (ignores_storeBrightness level.toNat)
    cases update with
    | false => exact ⟨_, _, rfl, rfl, stored.ignores (ignores_respond .ok)⟩
    | true => exact ⟨_, _, rfl, rfl, stored.sendCmd _ _ fun u u' hu => hu.ignores (ignores_respond .ok)⟩
  | setPixel x y on => exact ⟨_, _, rfl, rfl, (h.ignores (ignores_writeBit _ _ _ _)).drawn hP⟩
  | setCharacter x c =>
    simp only [exec, execSetCharacter, h.params_eq]
    cases glyphLookup s.params c.toNat with
    | none => exact ⟨_, _, rfl, rfl, h.ignores (ignores_respond .ok)⟩
    | some data => exact ⟨_, _, rfl, rfl, (h.ignores (ignores_drawGlyph _ _ _)).drawn hP⟩
  | setDecimal left right =>
    exact ⟨_, _, rfl, rfl, ((h.ignores (ignores_writeBit _ _ _ _)).ignores (ignores_writeBit _ _ _ _)).drawn hP⟩
  | clear => exact ⟨_, _, rfl, rfl, (h.ignores ignores_zeroImages).drawn hP⟩
  | commit => exact ⟨_, _, rfl, rfl, h.showFrames_eq ▸ h.sendFrames hP _⟩
  | leftImage | rightImage | mode | options | brightness | update =>
    exact ⟨_, _, rfl, rfl, h.sequencerStep hP _ _⟩

end

/-- Settles O23: two states with the same BUSLOG and any phases agree but for PHASE, and so do their results. -/
theorem noResultDependsOnPhase : Obligations.NoResultDependsOnPhase := by
  intro i s t p hexec
  have start : Alike (fun _ _ => True) s.buslog s.buslog s { s with phase := p } := ⟨p, [], trivial, by simp, by simp⟩
  obtain ⟨u, u', hu, hu', q, new, -, hlog, rfl⟩ := exec_alike (fun _ => trivial) i start
  obtain rfl : u = t := Host.Outcome.next.inj (hu.symm.trans hexec)
  exact ⟨_, hu', by rw [← hlog]⟩

/-- Settles O24: two states with the same phase and any logs agree but for BUSLOG, and so do their results, which both append
the same entries. -/
theorem noResultDependsOnBuslog : Obligations.NoResultDependsOnBuslog := by
  intro i s t old hexec
  have start : Alike Eq s.buslog old s { s with buslog := old } := ⟨s.phase, [], rfl, by simp, by simp⟩
  obtain ⟨u, u', hu, hu', q, new, rfl, hlog, rfl⟩ := exec_alike (fun _ => rfl) i start
  obtain rfl : u = t := Host.Outcome.next.inj (hu.symm.trans hexec)
  exact ⟨new, hlog, hu'⟩

end Sys2Proof.Machine
end

section
/-! SUPPORT. Where the instruction of a step comes from: a command word presented to an idle block, and a table word placed for
the next step. -/

namespace Sys2Proof.Machine

/-- Settles O7: at SEQ 0 the sequencer has no frame to send, so the step takes the word presented (the port as a list is log 5). -/
theorem stepRunsPresentedCommand : Obligations.StepRunsPresentedCommand := by
  intro s w rest i hidle hcommands hdecode
  have hseq := (sequencerInstr_eq_none s).2 hidle
  simp only [step, hseq, hcommands, hdecode, takeCommand, List.tail_cons]

/-! What a table word decodes to -/

theorem instr?_eq_some_iff {d : Decoded} {i : Instr} : d.instr? = some i ↔ d = .instr i := by
  cases d <;> simp [Decoded.instr?]

/-- No frame spells a host operation. -/
theorem isHostOperation_eq_false_of_decodeFrame {p : List Byte} {i : Instr} (h : decodeFrame p = .instr i) :
    isHostOperation i = false := by
  cases p with
  | nil => cases h
  | cons b rest =>
    rcases (decodeFrame_eq_instr b rest i).1 h with
      ⟨-, d, -, rfl⟩ | ⟨-, d, -, rfl⟩ | ⟨-, -, rfl⟩ | ⟨-, -, rfl⟩ | ⟨-, level, -, -, rfl⟩ | ⟨-, -, rfl⟩ <;> rfl

/-- A table word is read as a command word or as a frame. -/
theorem decodeTableWord_cases {nbits w : Nat} {i : Instr} (h : decodeTableWord nbits w = some i) :
    decodeCommand (BitVec.ofNat 16 w) = .instr i ∨ ∃ p, decodeFrame p = .instr i := by
  unfold decodeTableWord decodeShortWord at h
  split_ifs at h
  · cases hc : decodeCommand (BitVec.ofNat 16 w) with
    | instr j => exact .inl (by simpa [hc] using h)
    | reject r => exact .inr ⟨_, instr?_eq_some_iff.1 (by simpa only [hc] using h)⟩
  · exact .inr ⟨_, instr?_eq_some_iff.1 h⟩

/-- A table word that spells a host operation is its command word. -/
theorem decodeCommand_of_decodeTableWord {nbits w : Nat} {i : Instr} (h : decodeTableWord nbits w = some i)
    (hi : isHostOperation i = true) : decodeCommand (BitVec.ofNat 16 w) = .instr i := by
  rcases decodeTableWord_cases h with hc | ⟨p, hp⟩
  · exact hc
  · simp [isHostOperation_eq_false_of_decodeFrame hp] at hi

/-! Placing a table word -/

/-- A host operation is placed at the head of the port of an idle block. -/
theorem withFetchWord_of_hostOperation {nbits w : Nat} {i : Instr} (s : State) (h : decodeTableWord nbits w = some i)
    (hi : isHostOperation i = true) :
    s.withFetchWord nbits w = { s with seq := 0, commands := BitVec.ofNat 16 w :: s.commands } := by
  unfold State.withFetchWord placeTableWord
  rw [h]
  cases i with
  | init | setBrightness | setPixel | setCharacter | setDecimal | clear | commit => rfl
  | leftImage | rightImage | mode | options | brightness | update => exact nomatch hi

/-- A frame is placed in SEQ and the registers that the sequencer forms it from, and is what the sequencer sends next. -/
theorem sequencerInstr_withFetchWord {nbits w : Nat} {i : Instr} (s : State) (h : decodeTableWord nbits w = some i)
    (hi : isHostOperation i = false) :
    ∃ seq left right brt, s.withFetchWord nbits w = { s with seq := seq, left := left, right := right, brt := brt } ∧
      sequencerInstr (s.withFetchWord nbits w) = some i := by
  unfold State.withFetchWord placeTableWord
  rw [h]
  cases i with
  | leftImage | rightImage | mode | options | brightness | update => exact ⟨_, _, _, _, rfl, rfl⟩
  | init | setBrightness | setPixel | setCharacter | setDecimal | clear | commit => exact nomatch hi

/-- Settles O12: the step takes a host operation's word back off the port, which leaves SEQ 0 behind, and runs a frame in the
very state in which it was placed. -/
theorem placedTableWordIsRunByTheNextStep : Obligations.PlacedTableWordIsRunByTheNextStep := by
  intro s nbits w i h
  cases hi : isHostOperation i with
  | true =>
    have run := stepRunsPresentedCommand { s with seq := 0, commands := BitVec.ofNat 16 w :: s.commands } _ s.commands i
      rfl rfl (decodeCommand_of_decodeTableWord h hi)
    exact ⟨{ s with seq := 0 }, by rw [withFetchWord_of_hostOperation s h hi, run], rfl, fun _ => rfl⟩
  | false =>
    obtain ⟨seq, left, right, brt, placed, hinstr⟩ := sequencerInstr_withFetchWord s h hi
    exact ⟨_, step_of_sequencerInstr hinstr, by rw [placed], fun hhost => nomatch hhost⟩

end Sys2Proof.Machine
end

section
/-! SUPPORT. The two encoding spaces. A command word is its fields, one placed beside the other; so an operation's format spells
exactly the words with that opcode and with the reserved bits 0, and decoding inverts encoding in both directions. From it, the
statements of 30_encoding.md about words and frames. -/

namespace Sys2Proof

/-! A field of a command word -/

/-- The bits that an operand of `n` bits takes in a command word, the field's lowest bit at `lo`. -/
def fieldMask (lo n : Nat) : Word := placeField lo (BitVec.allOnes n)

/-- Placing what a field holds gives the word with every bit outside the field cleared. -/
theorem placeField_extractLsb' (w : Word) (lo n : Nat) : placeField lo (w.extractLsb' lo n) = w &&& fieldMask lo n := by
  refine BitVec.eq_of_getLsbD_eq fun i hi => ?_
  simp only [fieldMask, BitVec.getLsbD_and, placeField_getLsbD, BitVec.getLsbD_extractLsb', BitVec.getLsbD_allOnes]
  by_cases hlo : lo ≤ i
  · rw [Nat.add_sub_cancel' hlo]
    cases w.getLsbD i <;> simp
  · simp [hlo]

section
variable {n m lo lo' : Nat} (v : BitVec n)

@[simp] theorem extractLsb'_placeField_same (h : lo + n ≤ 16) : (placeField lo v).extractLsb' lo n = v := by
  refine BitVec.eq_of_getLsbD_eq fun i hi => ?_
  have hbit : lo + i < 16 := by omega
  simp only [BitVec.getLsbD_extractLsb', placeField_getLsbD, hi, hbit, Nat.le_add_right, Nat.add_sub_cancel_left,
    decide_true, Bool.true_and]

@[simp] theorem extractLsb'_placeField_disjoint (h : lo + n ≤ lo' ∨ lo' + m ≤ lo) :
    (placeField lo v).extractLsb' lo' m = 0#m := by
  refine BitVec.eq_of_getLsbD_eq fun i hi => ?_
  rw [BitVec.getLsbD_extractLsb', placeField_getLsbD, BitVec.getLsbD_zero]
  rcases h with hbelow | habove
  · rw [BitVec.getLsbD_of_ge v _ (by omega), Bool.and_false, Bool.and_false]
  · have hlo : ¬ lo ≤ lo' + i := by omega
    simp only [hlo, decide_false, Bool.and_false, Bool.false_and]

@[simp] theorem placeField_and_eq_zero {mask : Word} (h : lo + n ≤ 16) (hmask : fieldMask lo n &&& mask = 0#16) :
    placeField lo v &&& mask = 0#16 := by
  have inside : placeField lo v = placeField lo v &&& fieldMask lo n := by
    rw [← placeField_extractLsb', extractLsb'_placeField_same v h]
  rw [inside, BitVec.and_assoc, hmask, BitVec.and_zero]

end

/-- A one-bit field holds a flag where its only bit is that flag. -/
theorem extractLsb'_one_eq_flagBit_iff (w : Word) (k : Nat) (b : Bool) :
    w.extractLsb' k 1 = flagBit b ↔ w.getLsbD k = b := by
  have hone : w.extractLsb' k 1 = flagBit (w.getLsbD k) := by
    refine BitVec.eq_of_getLsbD_eq fun i hi => ?_
    obtain rfl := Nat.lt_one_iff.1 hi
    simp only [BitVec.getLsbD_extractLsb', flagBit_getLsbD, Nat.add_zero, decide_true, hi]
  rw [hone]
  cases w.getLsbD k <;> cases b <;> decide

/-- The bits of a field are 0 where the word's number, cut off above the field, is below the field's lowest bit. -/
theorem and_fieldMask_eq_zero_iff (w : Word) {lo n : Nat} (h : lo + n ≤ 16) :
    w &&& fieldMask lo n = 0#16 ↔ w.toNat % 2 ^ (lo + n) < 2 ^ lo := by
  have hfield : w &&& fieldMask lo n = 0#16 ↔ w.extractLsb' lo n = 0#n := by
    rw [← placeField_extractLsb']
    constructor
    · intro hzero
      rw [← extractLsb'_placeField_same (w.extractLsb' lo n) h, hzero, BitVec.extractLsb'_zero]
    · intro hzero
      rw [hzero, placeField, BitVec.setWidth_zero, BitVec.zero_shiftLeft]
  rw [hfield, ← BitVec.toNat_inj, BitVec.extractLsb'_toNat, Nat.shiftRight_eq_div_pow, BitVec.toNat_zero,
    ← Nat.mod_mul_right_div_self, ← Nat.pow_add, Nat.div_eq_zero_iff_lt (Nat.two_pow_pos lo)]

/-- A word whose reserved bits are 0 is what its operand fields hold. -/
theorem and_used_eq_self {w used reserved : Word} (hw : w &&& reserved = 0#16)
    (hall : used ||| reserved = BitVec.allOnes 16) : w &&& used = w := by
  calc w &&& used = w &&& used ||| w &&& reserved := by rw [hw, BitVec.or_zero]
    _ = w := by rw [← BitVec.and_or_distrib_left, hall, BitVec.and_allOnes]

/-! The formats of R83 to R87: which words they spell -/

theorem formatN_eq_iff (op : BitVec 4) (w : Word) :
    formatN op = w ↔ w.extractLsb' 12 4 = op ∧ w &&& 0x0FFF#16 = 0#16 := by
  unfold formatN
  constructor
  · rintro rfl
    simp (disch := decide)
  · rintro ⟨rfl, hzero⟩
    rw [placeField_extractLsb']
    exact and_used_eq_self hzero (by decide)

theorem formatB_eq_iff (op : BitVec 4) (update : Bool) (level : BitVec 8) (w : Word) :
    formatB op update level = w ↔
      w.extractLsb' 12 4 = op ∧ w &&& 0x0E00#16 = 0#16 ∧ w.extractLsb' 0 8 = level ∧ w.getLsbD 8 = update := by
  unfold formatB
  rw [← extractLsb'_one_eq_flagBit_iff]
  constructor
  · rintro rfl
    simp (disch := decide) [BitVec.extractLsb'_or, BitVec.and_or_distrib_right]
  · rintro ⟨rfl, hzero, rfl, hflag⟩
    rw [← hflag]
    simp only [placeField_extractLsb', ← BitVec.and_or_distrib_left]
    exact and_used_eq_self hzero (by decide)

theorem formatP_eq_iff (op : BitVec 4) (on : Bool) (x : BitVec 4) (y : BitVec 3) (w : Word) :
    formatP op on x y = w ↔
      w.extractLsb' 12 4 = op ∧ w &&& 0x0E08#16 = 0#16 ∧ w.extractLsb' 4 4 = x ∧ w.extractLsb' 0 3 = y ∧
        w.getLsbD 8 = on := by
  unfold formatP
  rw [← extractLsb'_one_eq_flagBit_iff]
  constructor
  · rintro rfl
    simp (disch := decide) [BitVec.extractLsb'_or, BitVec.and_or_distrib_right]
  · rintro ⟨rfl, hzero, rfl, rfl, hflag⟩
    rw [← hflag]
    simp only [placeField_extractLsb', ← BitVec.and_or_distrib_left]
    exact and_used_eq_self hzero (by decide)

/-- Format C has no reserved bits. -/
theorem formatC_eq_iff (op x : BitVec 4) (c : BitVec 8) (w : Word) :
    formatC op x c = w ↔ w.extractLsb' 12 4 = op ∧ w.extractLsb' 8 4 = x ∧ w.extractLsb' 0 8 = c := by
  unfold formatC
  constructor
  · rintro rfl
    simp (disch := decide) [BitVec.extractLsb'_or]
  · rintro ⟨rfl, rfl, rfl⟩
    simp only [placeField_extractLsb', ← BitVec.and_or_distrib_left]
    exact and_used_eq_self BitVec.and_zero (by decide)

theorem formatD_eq_iff (op : BitVec 4) (left right : Bool) (w : Word) :
    formatD op left right = w ↔
      w.extractLsb' 12 4 = op ∧ w &&& 0x0FFC#16 = 0#16 ∧ w.getLsbD 1 = left ∧ w.getLsbD 0 = right := by
  unfold formatD
  rw [← extractLsb'_one_eq_flagBit_iff w 1, ← extractLsb'_one_eq_flagBit_iff w 0]
  constructor
  · rintro rfl
    simp (disch := decide) [BitVec.extractLsb'_or, BitVec.and_or_distrib_right]
  · rintro ⟨rfl, hzero, hleft, hright⟩
    rw [← hleft, ← hright]
    simp only [placeField_extractLsb', ← BitVec.and_or_distrib_left]
    exact and_used_eq_self hzero (by decide)

/-! What decodes -/

/-- What a command word decodes to, by its opcode (R82 to R89). -/
theorem decodeCommand_eq_instr (w : Word) (i : Instr) :
    decodeCommand w = .instr i ↔
      (w.extractLsb' 12 4 = 0x1#4 ∧ w &&& 0x0FFF#16 = 0#16 ∧ .init = i) ∨
      (w.extractLsb' 12 4 = 0x2#4 ∧ w &&& 0x0E00#16 = 0#16 ∧ .setBrightness (w.extractLsb' 0 8) (w.getLsbD 8) = i) ∨
      (w.extractLsb' 12 4 = 0x3#4 ∧ w &&& 0x0E08#16 = 0#16 ∧
        .setPixel (w.extractLsb' 4 4) (w.extractLsb' 0 3) (w.getLsbD 8) = i) ∨
      (w.extractLsb' 12 4 = 0x4#4 ∧ .setCharacter (w.extractLsb' 8 4) (w.extractLsb' 0 8) = i) ∨
      (w.extractLsb' 12 4 = 0x5#4 ∧ w &&& 0x0FFC#16 = 0#16 ∧ .setDecimal (w.getLsbD 1) (w.getLsbD 0) = i) ∨
      (w.extractLsb' 12 4 = 0x6#4 ∧ w &&& 0x0FFF#16 = 0#16 ∧ .clear = i) ∨
      (w.extractLsb' 12 4 = 0x7#4 ∧ w &&& 0x0FFF#16 = 0#16 ∧ .commit = i) := by
  unfold decodeCommand
  generalize w.extractLsb' 12 4 = op
  split_ifs with h1 h2 h3 h4 h5 h6 h7
  · subst h1; simp [whenReservedZero_eq_instr]
  · subst h2; simp [whenReservedZero_eq_instr]
  · subst h3; simp [whenReservedZero_eq_instr]
  · subst h4; simp
  · subst h5; simp [whenReservedZero_eq_instr]
  · subst h6; simp [whenReservedZero_eq_instr]
  · subst h7; simp [whenReservedZero_eq_instr]
  · simp [h1, h2, h3, h4, h5, h6, h7]

/-- A command word decodes to the one instruction that it is the encoding of. -/
theorem decodeCommand_eq_instr_iff_encode (w : Word) (i : Instr) :
    decodeCommand w = .instr i ↔ encode i = .command w := by
  rw [decodeCommand_eq_instr]
  cases i with
  | init | clear | commit => simp [encode, formatN_eq_iff]
  | setBrightness => simp [encode, formatB_eq_iff]
  | setPixel => simp [encode, formatP_eq_iff]
  | setCharacter => simp [encode, formatC_eq_iff]
  | setDecimal => simp [encode, formatD_eq_iff]
  | leftImage | rightImage | mode | options | brightness | update => simp [encode]

/-- A payload decodes to the one well-formed instruction that it is the encoding of (R92). -/
theorem decodeFrame_eq_instr_iff_encode (p : List Byte) (i : Instr) :
    decodeFrame p = .instr i ↔ i.wf = true ∧ encode i = .frame p := by
  constructor
  · intro h
    cases p with
    | nil => cases h
    | cons b rest =>
      rcases (decodeFrame_eq_instr b rest i).1 h with ⟨rfl, d, hd, rfl⟩ | ⟨rfl, d, hd, rfl⟩ | ⟨rfl, rfl, rfl⟩ |
        ⟨rfl, rfl, rfl⟩ | ⟨rfl, level, rfl, hbit, rfl⟩ | ⟨rfl, rfl, rfl⟩
      · exact ⟨rfl, by rw [(imageOfBytes_eq_some rest d).1 hd]; rfl⟩
      · exact ⟨rfl, by rw [(imageOfBytes_eq_some rest d).1 hd]; rfl⟩
      · exact ⟨rfl, rfl⟩
      · exact ⟨rfl, rfl⟩
      · exact ⟨by rw [Instr.wf, hbit, Bool.not_false], rfl⟩
      · exact ⟨rfl, rfl⟩
  · rintro ⟨hwf, hencode⟩
    rw [Machine.decodeFrame_of_encode hencode, if_pos hwf]

/-- Decoding and encoding are inverse to each other on the well-formed instructions. -/
theorem decode_eq_instr_iff_encode (e : Encoded) (i : Instr) :
    decode e = .instr i ↔ i.wf = true ∧ encode i = e := by
  cases e with
  | frame p => exact decodeFrame_eq_instr_iff_encode p i
  | command w =>
    refine (decodeCommand_eq_instr_iff_encode w i).trans (iff_and_self.2 fun hencode => ?_)
    exact Machine.wf_of_isHostOperation
      (Machine.isHostOperation_of_decodeCommand ((decodeCommand_eq_instr_iff_encode w i).2 hencode))

/-- Settles O2: the equivalence of decoding and encoding, read from right to left. -/
theorem decodeInvertsEncode : Obligations.DecodeInvertsEncode := fun i hwf =>
  (decode_eq_instr_iff_encode (encode i) i).2 ⟨hwf, rfl⟩

/-- Settles O3: the same equivalence, read from left to right. -/
theorem encodeInvertsDecode : Obligations.EncodeInvertsDecode := fun e i =>
  (decode_eq_instr_iff_encode e i).1

/-! Which words spell an operation (the layout is D2, the reserved words are D4) -/

theorem opcode_eq_iff (w : Word) (op : BitVec 4) : w.extractLsb' 12 4 = op ↔ w.toNat / 4096 = op.toNat := by
  have hw := w.isLt
  rw [← BitVec.toNat_inj, BitVec.extractLsb'_toNat, Nat.shiftRight_eq_div_pow]
  omega

theorem reserved_formatN_iff (w : Word) : w &&& 0x0FFF#16 = 0#16 ↔ w.toNat % 4096 = 0 := by
  rw [show 0x0FFF#16 = fieldMask 0 12 by decide, ← Nat.lt_one_iff]
  exact and_fieldMask_eq_zero_iff w (by decide)

theorem reserved_formatB_iff (w : Word) : w &&& 0x0E00#16 = 0#16 ↔ w.toNat % 4096 < 512 := by
  rw [show 0x0E00#16 = fieldMask 9 3 by decide]
  exact and_fieldMask_eq_zero_iff w (by decide)

/-- Format P has the reserved bits of format B and bit 3. -/
theorem reserved_formatP_iff (w : Word) : w &&& 0x0E08#16 = 0#16 ↔ w.toNat % 4096 < 512 ∧ w.toNat % 16 < 8 := by
  rw [show 0x0E08#16 = 0x0E00#16 ||| fieldMask 3 1 by decide, BitVec.and_or_distrib_left, BitVec.or_eq_zero_iff]
  exact and_congr (reserved_formatB_iff w) (and_fieldMask_eq_zero_iff w (by decide))

theorem reserved_formatD_iff (w : Word) : w &&& 0x0FFC#16 = 0#16 ↔ w.toNat % 4096 < 4 := by
  rw [show 0x0FFC#16 = fieldMask 2 10 by decide]
  exact and_fieldMask_eq_zero_iff w (by decide)

/-- Settles O4: what decodes, opcode by opcode, with OP and the reserved bits read off the word's number. -/
theorem commandWordLegalExactlyByOpcodeAndReservedBits :
    Obligations.CommandWordLegalExactlyByOpcodeAndReservedBits := by
  intro w
  simp only [decodeCommand_eq_instr, exists_or, exists_and_left, exists_eq', and_true, opcode_eq_iff,
    reserved_formatN_iff, reserved_formatB_iff, reserved_formatP_iff, reserved_formatD_iff, BitVec.toNat_ofNat,
    Nat.reducePow, Nat.reduceMod]

/-- The first byte of a two-byte frame is 0x00, 0x0C, 0x0D or 0x19 (R92). -/
theorem firstByte_of_encode_twoBytes {i : Instr} {a b : Byte} (h : encode i = .frame [a, b]) :
    a.toNat < 16 ∨ a.toNat = 0x19 := by
  cases i with
  | mode | options | brightness | update => cases h; decide
  | leftImage | rightImage | init | setBrightness | setPixel | setCharacter | setDecimal | clear | commit => cases h

/-- Settles O5: a first byte below 16 makes OP 0, and the byte 0x19 makes OP 1, whose reserved bits it sets (the layout is
D2). -/
theorem twoByteFramesAreReservedCommandWords : Obligations.TwoByteFramesAreReservedCommandWords := by
  intro i a b _ hencode
  cases hdecode : decodeCommand (a ++ b) with
  | reject r => exact ⟨r, rfl⟩
  | instr j =>
    have hlegal := (commandWordLegalExactlyByOpcodeAndReservedBits (a ++ b)).1 ⟨j, hdecode⟩
    have hb := b.isLt
    rw [BitVec.toNat_append, ← Nat.shiftLeft_add_eq_or_of_lt hb, Nat.shiftLeft_eq] at hlegal
    rcases firstByte_of_encode_twoBytes hencode with hlow | hbrightness
    · omega
    · omega

theorem length_of_imageOfBytes {bytes : List Byte} {d : Image} (h : imageOfBytes bytes = some d) : bytes.length = 8 := by
  rw [(imageOfBytes_eq_some bytes d).1 h]
  rfl

/-- Settles O6: what decodes, case by case on the first byte. -/
theorem firstByteTellsFrameAndLength : Obligations.FirstByteTellsFrameAndLength := by
  intro b rest i h
  rcases (decodeFrame_eq_instr b rest i).1 h with ⟨rfl, d, hd, rfl⟩ | ⟨rfl, d, hd, rfl⟩ | ⟨rfl, rfl, rfl⟩ |
    ⟨rfl, rfl, rfl⟩ | ⟨rfl, level, rfl, hbit, rfl⟩ | ⟨rfl, rfl, rfl⟩
  · exact .inl ⟨rfl, length_of_imageOfBytes hd, d, rfl⟩
  · exact .inr (.inl ⟨rfl, length_of_imageOfBytes hd, d, rfl⟩)
  · exact .inr (.inr (.inl ⟨rfl, rfl, rfl⟩))
  · exact .inr (.inr (.inr (.inl ⟨rfl, rfl, rfl⟩)))
  · exact .inr (.inr (.inr (.inr (.inl ⟨rfl, rfl, level, rfl⟩))))
  · exact .inr (.inr (.inr (.inr (.inr ⟨rfl, rfl, rfl⟩))))

/-- Settles O1: the decoder run on each word and frame (the word layout is D2). -/
theorem specWordsDecodeToTheirInstructions : Obligations.SpecWordsDecodeToTheirInstructions := by
  unfold Obligations.SpecWordsDecodeToTheirInstructions
  decide

end Sys2Proof
end

section
/-! SUPPORT. Two steps in full: a commit whose frames are all answered Ok, and a reserved command word. -/

namespace Sys2Proof.Machine

/-! A commit -/

theorem consumeAnswers_zero (s : State) : consumeAnswers s 0 = s := by
  simp [consumeAnswers]

/-- A bus write consumes the first answer. -/
theorem consumeAnswers_busWrite (p : List Byte) (s : State) (k : Nat) :
    consumeAnswers (busWrite p s) k =
      { consumeAnswers s (k + 1) with buslog := s.buslog ++ [⟨s.addr, p, answerAt s 0⟩] } := by
  rw [busWrite_eq]
  cases hs : s.answers with
  | nil => simp [consumeAnswers, hs]; omega
  | cons a rest => simp [consumeAnswers, hs]

/-- Frames answered Ok are logged in order and the commit goes on with the frames after them (R144). -/
theorem sendFrames_append_of_ok (sent rest : List (List Byte)) (s : State)
    (hok : ∀ k, k < sent.length → answerAt s k = .ok) :
    sendFrames (sent ++ rest) s =
      sendFrames rest { consumeAnswers s sent.length with buslog := s.buslog ++ okEntries s.addr sent } := by
  induction sent generalizing s with
  | nil => simp [consumeAnswers_zero, okEntries]
  | cons f sent ih =>
    have hfirst : answerAt s 0 = .ok := hok 0 (by simp)
    have hlater : ∀ k, k < sent.length → answerAt (busWrite f s) k = .ok := fun k hk => by
      rw [answerAt_busWrite]
      exact hok (k + 1) (by simpa using hk)
    have hsend : sendFrames (f :: (sent ++ rest)) s = sendFrames (sent ++ rest) (busWrite f s) := by
      simp only [sendFrames, nextAnswer_eq, hfirst]
    rw [List.cons_append, hsend, ih _ hlater, consumeAnswers_busWrite]
    simp [okEntries, nextAnswer_eq, hfirst]

/-- Settles O37: all six frames are answered Ok, and then the commit ends. -/
theorem successfulShowSendsSixFramesInOrder : Obligations.SuccessfulShowSendsSixFramesInOrder := by
  intro s hok
  have hshow : exec .commit s = .next (sendFrames (commitFrames s ++ []) s) := by
    rw [List.append_nil, ← showFrames_eq]
    rfl
  rw [hshow, sendFrames_append_of_ok (commitFrames s) [] s hok]
  rfl

/-! A reserved word -/

/-- Settles O9: at SEQ 0 the step takes the word presented, which the decoder rejects (D4, log 7). -/
theorem reservedWordAnswersIllAndChangesNothing : Obligations.ReservedWordAnswersIllAndChangesNothing := by
  intro s w rest r hidle hcommands hdecode
  have hseq := (sequencerInstr_eq_none s).2 hidle
  simp only [step, hseq, hcommands, hdecode, raiseIllegal, respond, takeCommand, List.tail_cons]

end Sys2Proof.Machine
end

section
/-! SUPPORT. Two SET_PIXEL operations in a row, and CLEAR. -/

namespace Sys2Proof.Machine

/-- Different pixels have different cells, inside the grid and past it. -/
theorem pixelCell_inj {x y x' y' : Nat} : pixelCell x y = pixelCell x' y' ↔ x = x' ∧ y = y' := by
  unfold pixelCell
  split <;> split <;> simp only [Prod.mk.injEq, reduceCtorEq, true_and, false_and, false_iff] <;> omega

/-- t is s but for the images. -/
def OnlyImagesDiffer (s t : State) : Prop := t = { s with left := t.left, right := t.right }

theorem OnlyImagesDiffer.trans {s t u : State} (hst : OnlyImagesDiffer s t) (htu : OnlyImagesDiffer t u) :
    OnlyImagesDiffer s u := by
  unfold OnlyImagesDiffer at *
  rw [htu, hst]

theorem onlyImagesDiffer_pix_pix (x y x' y' : Nat) (on on' : Bool) (s : State) :
    OnlyImagesDiffer s (pix x' y' on' (pix x y on s)) :=
  .trans (pix_frame x y on s) (pix_frame x' y' on' _)

/-- Two states that differ from s in the images only are equal when their data bits are. -/
theorem OnlyImagesDiffer.eq_of_imageBit_eq {s t u : State} (ht : OnlyImagesDiffer s t) (hu : OnlyImagesDiffer s u)
    (hbits : ∀ h i n, n < 8 → imageBit t h i n = imageBit u h i n) : t = u := by
  obtain ⟨hleft, hright⟩ := image_ext fun h i n _ _ hn => hbits h i n hn
  rw [ht, hu, hleft, hright]

/-- PIX calls on different pixels commute, whatever columns they name (R114 b). -/
theorem pix_comm {x y x' y' : Nat} (hy : y < 8) (hy' : y' < 8) (hne : ¬(x = x' ∧ y = y')) (on on' : Bool) (s : State) :
    pix x' y' on' (pix x y on s) = pix x y on (pix x' y' on' s) := by
  refine (onlyImagesDiffer_pix_pix ..).eq_of_imageBit_eq (onlyImagesDiffer_pix_pix ..) fun h i n hn => ?_
  simp only [imageBit_pix _ _ _ _ _ _ hy, imageBit_pix _ _ _ _ _ _ hy', hn, and_true]
  by_cases hcell : (h, i, n) = pixelCell x y
  · have hother : (h, i, n) ≠ pixelCell x' y' := fun heq => hne (pixelCell_inj.1 (hcell.symm.trans heq))
    rw [if_neg hother, if_neg hother]
  · rw [if_neg hcell, if_neg hcell]

/-- PIX off after PIX on undoes it where the cell's bit was off (R114 a). -/
theorem pix_false_pix_true {x y : Nat} {s : State} (hy : y < 8)
    (hoff : imageBit s (pixelCell x y).1 (pixelCell x y).2.1 (pixelCell x y).2.2 = false) :
    pix x y false (pix x y true s) = s := by
  have hself : OnlyImagesDiffer s s := rfl
  refine (onlyImagesDiffer_pix_pix ..).eq_of_imageBit_eq hself fun h i n hn => ?_
  simp only [imageBit_pix _ _ _ _ _ _ hy, hn, and_true]
  by_cases hcell : (h, i, n) = pixelCell x y
  · rw [if_pos hcell, ← hoff, ← hcell]
  · rw [if_neg hcell, if_neg hcell]

/-- PIX neither reads nor writes PHASE or the responses. -/
theorem pix_respond_markMutated (x y : Nat) (on : Bool) (r : Response) (s : State) :
    pix x y on (respond r (markMutated s)) = respond r (markMutated (pix x y on s)) := by
  unfold pix writeBit writeByte
  split <;> rfl

theorem pix_responses (x y : Nat) (on : Bool) (s : State) : (pix x y on s).responses = s.responses :=
  writeByte_responses ..

/-- Two SET_PIXEL operations are their two PIX calls, PHASE DIRTY and two OK responses (R111). -/
theorem execAll_setPixel_setPixel (x x' : BitVec 4) (y y' : BitVec 3) (on on' : Bool) (s : State) :
    execAll [.setPixel x y on, .setPixel x' y' on'] s =
      .next { pix x'.toNat y'.toNat on' (pix x.toNat y.toNat on s) with
        phase := .dirty, responses := s.responses ++ [.ok, .ok] } := by
  have hrun : execAll [.setPixel x y on, .setPixel x' y' on'] s =
      .next (respond .ok (markMutated (pix x'.toNat y'.toNat on'
        (respond .ok (markMutated (pix x.toNat y.toNat on s)))))) := rfl
  rw [hrun, pix_respond_markMutated]
  simp [respond, markMutated, pix_responses]

/-- Settles O26: the PIX calls of the two operations commute. -/
theorem distinctPixelWritesCommute : Obligations.DistinctPixelWritesCommute := by
  intro x x' y y' on on' s _ _ _ _ hne
  have hpixel : ¬(x.toNat = x'.toNat ∧ y.toNat = y'.toNat) := fun ⟨hx, hy⟩ =>
    hne (Prod.ext (BitVec.eq_of_toNat_eq hx) (BitVec.eq_of_toNat_eq hy))
  refine ⟨_, execAll_setPixel_setPixel .., ?_⟩
  rw [execAll_setPixel_setPixel, pix_comm y.isLt y'.isLt hpixel]

/-- Settles O27: the second PIX call undoes the first. -/
theorem setThenClearRestoresTheImages : Obligations.SetThenClearRestoresTheImages := by
  intro x y s _ _ hoff
  rw [execAll_setPixel_setPixel, pix_false_pix_true y.isLt hoff]

/-- Settles O29: CLEAR is the store of two zero images, PHASE DIRTY and the response OK. -/
theorem clearZeroesAllDataBytesOnly : Obligations.ClearZeroesAllDataBytesOnly := fun _ => rfl

end Sys2Proof.Machine
end

section
/-! SUPPORT. SET_CHARACTER: a glyph's PIX calls, one by one, in any order. -/

namespace Sys2Proof.Machine

/-! One PIX call of a glyph -/

theorem mem_glyphPoints {charWidth : Nat} {p : Nat × Nat} : p ∈ glyphPoints charWidth ↔ p.1 < charWidth ∧ p.2 < 7 := by
  obtain ⟨cx, cy⟩ := p
  simp [glyphPoints, gridH]

theorem row_lt_of_mem_glyphPoints {charWidth : Nat} : ∀ p ∈ glyphPoints charWidth, p.2 < 8 :=
  fun _ hp => (mem_glyphPoints.1 hp).2.trans (by decide)

theorem imageBit_plotPoint (x : Nat) (data : List Byte) (s : State) (h : Half) (i n : Nat) {p : Nat × Nat}
    (hp : p.2 < 8) :
    imageBit (plotPoint x data s p) h i n =
      if (h, i, n) = pixelCell (x + p.1) p.2 ∧ n < 8 then glyphPixel data p.1 p.2 else imageBit s h i n :=
  imageBit_pix _ _ _ _ _ _ hp

/-- The cells of two points of a glyph are the same only where the points are. -/
theorem pixelCell_glyphPoint_inj {x : Nat} {p q : Nat × Nat} :
    pixelCell (x + p.1) p.2 = pixelCell (x + q.1) q.2 ↔ p = q := by
  rw [pixelCell_inj, Prod.ext_iff, Nat.add_left_cancel_iff]

/-- The PIX calls of two points commute, since they are one call twice or name different pixels (R132). -/
theorem plotPoint_comm (x : Nat) (data : List Byte) (s : State) {p q : Nat × Nat} (hp : p.2 < 8) (hq : q.2 < 8) :
    plotPoint x data (plotPoint x data s p) q = plotPoint x data (plotPoint x data s q) p := by
  by_cases hpq : p = q
  · rw [hpq]
  · exact pix_comm hp hq (fun ⟨hx, hy⟩ => hpq (Prod.ext (Nat.add_left_cancel hx) hy)) _ _ s

/-! All PIX calls of a glyph -/

section
variable (x : Nat) (data : List Byte)

theorem onlyImagesDiffer_foldl_plotPoint (points : List (Nat × Nat)) (s : State) :
    OnlyImagesDiffer s (points.foldl (plotPoint x data) s) := by
  induction points generalizing s with
  | nil => rfl
  | cons p points ih => exact .trans (pix_frame ..) (ih (plotPoint x data s p))

/-- The order of the PIX calls does not matter (R132). -/
theorem foldl_plotPoint_of_perm {points points' : List (Nat × Nat)} (h : points.Perm points')
    (hrows : ∀ p ∈ points, p.2 < 8) (s : State) :
    points.foldl (plotPoint x data) s = points'.foldl (plotPoint x data) s :=
  h.foldl_eq' (fun _ hp _ hq t => plotPoint_comm x data t (hrows _ hp) (hrows _ hq)) s

/-- A bit that is no point's cell is not drawn on. -/
theorem imageBit_foldl_plotPoint_of_forall_ne {h : Half} {i n : Nat} {points : List (Nat × Nat)}
    (hrows : ∀ p ∈ points, p.2 < 8) (s : State) (hne : ∀ p ∈ points, (h, i, n) ≠ pixelCell (x + p.1) p.2) :
    imageBit (points.foldl (plotPoint x data) s) h i n = imageBit s h i n := by
  induction points generalizing s with
  | nil => rfl
  | cons p points ih =>
    obtain ⟨hp, hrows⟩ := List.forall_mem_cons.1 hrows
    obtain ⟨hnep, hne⟩ := List.forall_mem_cons.1 hne
    rw [List.foldl_cons, ih hrows _ hne, imageBit_plotPoint x data s h i n hp, if_neg fun hc => hnep hc.1]

/-- A bit that is a point's cell is the glyph's at that point: no other point has that cell to overwrite it. -/
theorem imageBit_foldl_plotPoint_of_mem {h : Half} {i n : Nat} {points : List (Nat × Nat)}
    (hrows : ∀ p ∈ points, p.2 < 8) (s : State) {p : Nat × Nat} (hp : p ∈ points) (hn : n < 8)
    (hcell : (h, i, n) = pixelCell (x + p.1) p.2) :
    imageBit (points.foldl (plotPoint x data) s) h i n = glyphPixel data p.1 p.2 := by
  induction points using List.reverseRecOn with
  | nil => exact nomatch hp
  | append_singleton points q ih =>
    obtain ⟨hrows, hq⟩ := List.forall_mem_append.1 hrows
    rw [List.foldl_concat, imageBit_plotPoint x data _ h i n (hq q List.mem_cons_self)]
    by_cases hpq : p = q
    · rw [if_pos ⟨hpq ▸ hcell, hn⟩, hpq]
    · have hmem : p ∈ points := by simpa [hpq] using hp
      rw [if_neg fun hc => hpq (pixelCell_glyphPoint_inj.1 (hcell.symm.trans hc.1)), ih hrows hmem]

end

/-! The lookup and the operation -/

theorem glyphLookup_of_supported {p : Params} {c : Nat} (hfirst : p.glyphFirst ≤ c) (hlast : c ≤ p.glyphLast) :
    glyphLookup p c = some (p.glyphs.getD (c - p.glyphFirst) []) :=
  if_neg (by omega)

/-- A hit draws the glyph's points, in the order of its bitmap; PHASE becomes DIRTY and the response is OK (R131). -/
theorem exec_setCharacter_of_hit (x : BitVec 4) {c : BitVec 8} {s : State} {data : List Byte}
    (h : glyphLookup s.params c.toNat = some data) :
    exec (.setCharacter x c) s =
      .next { (glyphPoints s.params.charWidth).foldl (plotPoint x.toNat data) s with
        phase := .dirty, responses := s.responses ++ [.ok] } := by
  have hframe := onlyImagesDiffer_foldl_plotPoint x.toNat data (glyphPoints s.params.charWidth) s
  have hresponses := congrArg State.responses hframe
  simp only [exec, execSetCharacter, h, drawGlyph, respond, markMutated, hresponses]

/-! The statements of the family -/

/-- Settles O31: a hit's drawn bits are the glyph's, since its cells are distinct, and no other bit is drawn on (D5, D6
past the grid; D8 for PHASE). -/
theorem supportedCharacterIsDrawnCellByCell : Obligations.SupportedCharacterIsDrawnCellByCell := by
  intro x c s hfirst hlast
  refine ⟨_, exec_setCharacter_of_hit x (glyphLookup_of_supported hfirst hlast), ?_, ?_, ?_⟩
  · rw [onlyImagesDiffer_foldl_plotPoint]
  · intro cx cy h i n hcx hcy hn hcell
    have hpoint : (cx, cy) ∈ glyphPoints s.params.charWidth := mem_glyphPoints.2 ⟨hcx, hcy⟩
    exact imageBit_foldl_plotPoint_of_mem _ _ row_lt_of_mem_glyphPoints s hpoint hn hcell
  · intro h i n _ _ hne
    refine imageBit_foldl_plotPoint_of_forall_ne _ _ row_lt_of_mem_glyphPoints s fun p hp => ?_
    obtain ⟨hcx, hcy⟩ := mem_glyphPoints.1 hp
    exact hne p.1 p.2 hcx hcy

/-- Settles O32: the PIX calls of a hit commute, past the grid too (D5, D6; D8 for PHASE). -/
theorem glyphPixelOrderDoesNotMatter : Obligations.GlyphPixelOrderDoesNotMatter := by
  intro x c s data points hhit hperm
  rw [exec_setCharacter_of_hit x hhit, foldl_plotPoint_of_perm _ _ hperm.symm row_lt_of_mem_glyphPoints]

/-- Settles O30: the lookup misses, and a miss answers OK at once (D8 for PHASE). -/
theorem unsupportedCharacterChangesNothing : Obligations.UnsupportedCharacterChangesNothing := by
  intro x c s hrange
  have hmiss : glyphLookup s.params c.toNat = none := if_pos hrange
  simp only [exec, execSetCharacter, hmiss, respond]

end Sys2Proof.Machine
end

section
/-! SUPPORT. The device controller: the brightness that SET_BRIGHTNESS and INIT store and send, and the bus writes of a commit
up to its first failure. -/

namespace Sys2Proof.Machine

/-! Brightness -/

theorem clampLevel_eq (level : Nat) : clampLevel level = BitVec.ofNat 8 (min level 127) := by
  unfold clampLevel maxBrightness
  split
  · next h => rw [min_eq_right h]
  · next h => rw [min_eq_left (by omega)]

theorem clampLevel_of_fin (level : Fin 128) : clampLevel level.val = BitVec.ofNat 8 level.val := by
  rw [clampLevel_eq, min_eq_left (by omega)]

section
variable {level : Nat} {b : Byte} {s : State}

/-- A stored level whose send is answered Ok: one frame, and the operation goes on (R141, R142). -/
theorem sendCmd_storeBrightness_of_ok (hb : clampLevel level = b) (hok : answerAt s 0 = .ok) (k : State → State) :
    sendCmd regBrightness (storeBrightness level s).brt (storeBrightness level s) k =
      k { consumeAnswers s 1 with brt := b, buslog := s.buslog ++ [⟨s.addr, [0x19#8, b], .ok⟩] } := by
  subst hb
  have hnext : nextAnswer (storeBrightness level s) = .ok := (nextAnswer_eq s).trans hok
  simp only [sendCmd, hnext, busWrite_eq, ← nextAnswer_eq]
  rfl

/-- A stored level whose send fails: the store is not undone, and nothing after the send is run (R141, R142, R175). -/
theorem sendCmd_storeBrightness_of_err {e : TransportError} (hb : clampLevel level = b) (herr : answerAt s 0 = .err e)
    (k : State → State) :
    sendCmd regBrightness (storeBrightness level s).brt (storeBrightness level s) k =
      { consumeAnswers s 1 with brt := b, buslog := s.buslog ++ [⟨s.addr, [0x19#8, b], .err e⟩],
                                responses := s.responses ++ [.err e] } := by
  subst hb
  have hnext : nextAnswer (storeBrightness level s) = .err e := (nextAnswer_eq s).trans herr
  simp only [sendCmd, hnext, busWrite_eq, ← nextAnswer_eq]
  rfl

end

/-- Settles O33: the clamp is the minimum with 127, and without update nothing is sent. -/
theorem setBrightnessWithoutUpdateStoresClampedLevel : Obligations.SetBrightnessWithoutUpdateStoresClampedLevel := by
  intro level s
  rw [← clampLevel_eq]
  rfl

/-- Settles O34: the stored level is sent once, and the operation ends with the transport's answer. -/
theorem setBrightnessWithUpdateStoresAndSends : Obligations.SetBrightnessWithUpdateStoresAndSends := by
  intro level s b hb
  have hclamp : clampLevel level.toNat = b := (clampLevel_eq _).trans hb.symm
  exact ⟨fun hok => congrArg Host.Outcome.next (sendCmd_storeBrightness_of_ok hclamp hok _),
    fun e herr => congrArg Host.Outcome.next (sendCmd_storeBrightness_of_err hclamp herr _)⟩

/-- Settles O35: the default is at most 127, so it is stored as it is; the clear follows the send. -/
theorem initSendsDefaultBrightnessThenClears : Obligations.InitSendsDefaultBrightnessThenClears := fun _ _ hb hok =>
  congrArg Host.Outcome.next (sendCmd_storeBrightness_of_ok ((clampLevel_of_fin _).trans hb.symm) hok _)

/-- Settles O36: the failed send ends INIT before the clear. -/
theorem failedInitStoresBrightnessOnly : Obligations.FailedInitStoresBrightnessOnly := fun _ _ _ hb herr =>
  congrArg Host.Outcome.next (sendCmd_storeBrightness_of_err ((clampLevel_of_fin _).trans hb.symm) herr _)

/-! A commit that fails -/

theorem exec_commit (s : State) : exec .commit s = .next (sendFrames (commitFrames s) s) := by
  rw [← showFrames_eq]
  rfl

theorem answerAt_consumeAnswers (s : State) (k j : Nat) : answerAt (consumeAnswers s k) j = answerAt s (k + j) := by
  simp only [answerAt, consumeAnswers, List.getElem?_drop, List.length_drop]
  cases h : s.answers[k + j]? with
  | some a => rfl
  | none =>
    have hlen : s.answers.length ≤ k + j := List.getElem?_eq_none_iff.1 h
    exact congrArg Config.freeAnswer (by omega)

theorem consumeAnswers_consumeAnswers (s : State) (k j : Nat) :
    consumeAnswers (consumeAnswers s k) j = consumeAnswers s (k + j) := by
  simp only [consumeAnswers, List.drop_drop, List.length_drop, State.mk.injEq, true_and, and_true]
  omega

/-- A frame answered Err(e) is the last one sent (R144, R151). -/
theorem sendFrames_cons_of_err {f : List Byte} {s : State} {e : TransportError} (rest : List (List Byte))
    (herr : answerAt s 0 = .err e) :
    sendFrames (f :: rest) s =
      { consumeAnswers s 1 with seq := 0, phase := .dirty, buslog := s.buslog ++ [⟨s.addr, f, .err e⟩],
                                responses := s.responses ++ [.err e] } := by
  simp only [sendFrames, nextAnswer_eq, herr, busWrite_eq]
  rfl

/-- Settles O38: the k frames before the failing one are logged as Ok, and the failing one aborts the rest. -/
theorem failedShowStopsAtTheFirstFailure : Obligations.FailedShowStopsAtTheFirstFailure := by
  intro s k bytes e hbytes hok herr
  obtain ⟨hk, hget⟩ := List.getElem?_eq_some_iff.1 hbytes
  have hlen : ((commitFrames s).take k).length = k := List.length_take_of_le hk.le
  have hsplit : commitFrames s = (commitFrames s).take k ++ bytes :: (commitFrames s).drop (k + 1) := by
    rw [← hget, List.cons_getElem_drop_succ, List.take_append_drop]
  have hfail : answerAt { consumeAnswers s k with
      buslog := s.buslog ++ okEntries s.addr ((commitFrames s).take k) } 0 = .err e :=
    (answerAt_consumeAnswers s k 0).trans herr
  rw [exec_commit, hsplit, sendFrames_append_of_ok _ _ s (by rwa [hlen]), ← hsplit, hlen, sendFrames_cons_of_err _ hfail,
    ← consumeAnswers_consumeAnswers]
  rfl

/-! The bus writes of any commit -/

/-- From `s` to `t` the block sent a beginning of `frames`, one entry of `new` each: every frame goes to ADDR with the answer
whose turn it is, and is issued exactly where all before it were answered Ok; the response is OK exactly where all were. -/
structure SendsWhileOk (frames : List (List Byte)) (s t : State) (new : List BusEntry) : Prop where
  buslog : t.buslog = s.buslog ++ new
  issued : ∀ k, k < frames.length → (k < new.length ↔ ∀ j, j < k → answerAt s j = .ok)
  entry : ∀ k e, new[k]? = some e → e.addr = s.addr ∧ frames[k]? = some e.payload ∧ e.result = answerAt s k
  response : t.responses = s.responses ++ [.ok] ↔ ∀ j, j < frames.length → answerAt s j = .ok

section
variable {f : List Byte} {s : State}

theorem forall_answerAt_busWrite_ok (hok : answerAt s 0 = .ok) (k : Nat) :
    (∀ j, j < k → answerAt (busWrite f s) j = .ok) ↔ ∀ j, j < k + 1 → answerAt s j = .ok := by
  simp only [answerAt_busWrite, Nat.forall_lt_succ_left, hok, true_and]

theorem not_forall_answerAt_ok {e : TransportError} (herr : answerAt s 0 = .err e) (k : Nat) :
    ¬∀ j, j < k + 1 → answerAt s j = .ok := by
  intro h
  simpa [herr] using h 0 k.succ_pos

/-- A frame answered Ok, before frames that are sent so. -/
theorem SendsWhileOk.cons {rest : List (List Byte)} {t : State} {new : List BusEntry} (hok : answerAt s 0 = .ok)
    (h : SendsWhileOk rest (busWrite f s) t new) :
    SendsWhileOk (f :: rest) s t (⟨s.addr, f, answerAt s 0⟩ :: new) where
  buslog := by rw [h.buslog, busWrite_buslog, nextAnswer_eq, List.append_assoc, List.singleton_append]
  issued
    | 0, _ => by simp
    | k + 1, hk => by
      rw [← forall_answerAt_busWrite_ok hok, ← h.issued k (by simpa using hk)]
      simp
  entry
    | 0, e, he => by
      obtain rfl : _ = e := Option.some.inj he
      exact ⟨rfl, rfl, rfl⟩
    | k + 1, e, he => by simpa [answerAt_busWrite] using h.entry k e he
  response := by
    rw [List.length_cons, ← forall_answerAt_busWrite_ok hok, ← h.response, busWrite_responses]

/-- A frame answered Err(e) is issued, and none after it. -/
theorem sendsWhileOk_abortShow {e : TransportError} (herr : answerAt s 0 = .err e) (rest : List (List Byte)) :
    SendsWhileOk (f :: rest) s (abortShow e (busWrite f s)) [⟨s.addr, f, answerAt s 0⟩] where
  buslog := by simp [abortShow, markCommitFailed, nextAnswer_eq]
  issued
    | 0, _ => by simp
    | k + 1, _ => iff_of_false (by simp) (not_forall_answerAt_ok herr k)
  entry
    | 0, e, he => by
      obtain rfl : _ = e := Option.some.inj he
      exact ⟨rfl, rfl, rfl⟩
  response := by
    refine iff_of_false ?_ (not_forall_answerAt_ok herr _)
    simp [abortShow, markCommitFailed]

end

/-- Frames sent in order are sent while the transport answers Ok (R144, R151). -/
theorem sendFrames_sendsWhileOk (frames : List (List Byte)) (s : State) :
    ∃ new, SendsWhileOk frames s (sendFrames frames s) new := by
  induction frames generalizing s with
  | nil => exact ⟨[], (List.append_nil _).symm, by simp, by simp, iff_of_true rfl (by simp)⟩
  | cons f rest ih =>
    rcases sendFrames_cons_cases f rest s with ⟨hok, h⟩ | ⟨e, herr, h⟩ <;> rw [h]
    · obtain ⟨new, hnew⟩ := ih (busWrite f s)
      exact ⟨_, hnew.cons hok⟩
    · exact ⟨_, sendsWhileOk_abortShow herr rest⟩

/-- Settles O40: SHOW sends its six frames while the transport answers Ok. -/
theorem showIssuesAFrameOnlyAfterThePreviousOk : Obligations.ShowIssuesAFrameOnlyAfterThePreviousOk := by
  intro s
  obtain ⟨new, hlog, hissued, hentry, hresponse⟩ := sendFrames_sendsWhileOk (commitFrames s) s
  exact ⟨_, new, exec_commit s, hlog, hissued, hentry, hresponse⟩

/-- Settles O39: no write comes before the first, so it is always issued, and it is frame 0 of the commit. -/
theorem showFirstSendsTheLeftImageVerbatim : Obligations.ShowFirstSendsTheLeftImageVerbatim := by
  intro s
  obtain ⟨t, new, hshow, hlog, hissued, hentry, -⟩ := showIssuesAFrameOnlyAfterThePreviousOk s
  have hfirst : 0 < new.length := (hissued 0 (by omega)).2 (by simp)
  cases new with
  | nil => exact absurd hfirst (lt_irrefl 0)
  | cons e rest =>
    obtain ⟨haddr, hframe, -⟩ := hentry 0 e rfl
    have hpayload := (Option.some.inj hframe).symm
    exact ⟨t, e, rest, hshow, hlog, haddr, hpayload, by rw [hpayload]; rfl⟩

end Sys2Proof.Machine
end

section
/-! SUPPORT. The operations that work in memory only always answer OK (R178), and an idle block with no word presented holds its
state (R180). -/

namespace Sys2Proof.Machine

theorem onlyImagesDiffer_writeBit (h : Half) (i n : Nat) (on : Bool) (s : State) :
    OnlyImagesDiffer s (writeBit s h i n on) := by
  cases h <;> rfl

/-- `t` is `s` with new images and PHASE, perhaps the same, and then the response OK. -/
def AnswersOkInMemory (s t : State) : Prop :=
  ∃ left right phase, t = respond .ok { s with left := left, right := right, phase := phase }

/-- A mutation ends in marking it and answering OK. -/
theorem answersOkInMemory_drawn {s u : State} (h : OnlyImagesDiffer s u) :
    AnswersOkInMemory s (respond .ok (markMutated u)) :=
  ⟨u.left, u.right, .dirty, congrArg (fun v => respond .ok (markMutated v)) h⟩

/-- Every drawing operation, on every operand, has a next state and answers OK in memory (R111, R112, R113, R131). -/
theorem exec_drawing_answersOkInMemory {i : Instr} (s : State) (hi : isDrawing i = true) :
    ∃ t, exec i s = .next t ∧ AnswersOkInMemory s t := by
  cases i with
  | setPixel x y on => exact ⟨_, rfl, answersOkInMemory_drawn (pix_frame ..)⟩
  | setCharacter x c =>
    simp only [exec, execSetCharacter]
    cases glyphLookup s.params c.toNat with
    | none => exact ⟨_, rfl, s.left, s.right, s.phase, rfl⟩
    | some data => exact ⟨_, rfl, answersOkInMemory_drawn (onlyImagesDiffer_foldl_plotPoint ..)⟩
  | setDecimal left right =>
    exact ⟨_, rfl, answersOkInMemory_drawn ((onlyImagesDiffer_writeBit ..).trans (onlyImagesDiffer_writeBit ..))⟩
  | clear => exact ⟨_, rfl, answersOkInMemory_drawn (u := zeroImages s) rfl⟩
  | init | setBrightness | commit | leftImage | rightImage | mode | options | brightness | update => exact nomatch hi

/-- Settles O22: besides the images and PHASE, a drawing operation changes only the responses, by the OK appended. -/
theorem inMemoryOperationsAlwaysAnswerOk : Obligations.InMemoryOperationsAlwaysAnswerOk := by
  intro i s hi
  obtain ⟨t, hexec, left, right, phase, rfl⟩ := exec_drawing_answersOkInMemory s hi
  exact ⟨_, hexec, rfl, rfl⟩

/-- Settles O10: at SEQ 0 the sequencer has no frame to send, and the port presents no word (log 5). -/
theorem idleStepHoldsState : Obligations.IdleStepHoldsState := by
  intro s hidle hcommands
  have hseq := (sequencerInstr_eq_none s).2 hidle
  simp only [step, hseq, hcommands]

end Sys2Proof.Machine
end
